-- ==== Sys2Proof/Word.lean ====
section
/-!
DEFINITION. The two bit-vector types of the core (00_scope.md R9): 8-bit data and 16-bit addresses.
-/

namespace Sys2Proof

/-- The data width of the core: `A`, `X`, `Y`, `SP` and every memory byte (R9). -/
abbrev Byte := BitVec 8

/-- The address width of the core: `PC` and every effective address (R9). -/
abbrev Word := BitVec 16

end Sys2Proof
end

