-- ==== Sys2Proof/Machine/Bits.lean ====
section
/-!
DEFINITION. The notation of 00_scope.md R11 on bytes and words: `hi`, `lo`, `{h, l}`, `zext`, `sext_8`,
one bit, and the page of an address (R15).
-/

namespace Sys2Proof

/-- `hi(w) = w[15:8]` (R11); it is also the page number of an address (R15). -/
def hiByte (w : Word) : Byte := w.extractLsb' 8 8

/-- `lo(w) = w[7:0]` (R11). -/
def loByte (w : Word) : Byte := w.extractLsb' 0 8

/-- `{h, l}`, the 16-bit value `h * 256 + l` (R11). -/
def mkWord (h l : Byte) : Word := h ++ l

/-- `zext(b)` as a 16-bit value (R11): a zero-page address, or an index added to a word. -/
def zeroExt (b : Byte) : Word := b.setWidth 16

/-- `sext_8(b)` as a 16-bit two's-complement value (R11): a branch displacement. -/
def signExt (b : Byte) : Word := b.signExtend 16

/-- `b[k]`, one bit of a byte (R11). -/
def bitAt (b : Byte) (k : Nat) : Bool := b.getLsbD k

/-- `1 << k` as a byte (R190, R191). -/
def bitMask (k : Nat) : Byte := 1#8 <<< k

/-- 1 when two addresses lie in different pages, else 0 (R113, R288). -/
def pageCross (a b : Word) : Nat := if hiByte a = hiByte b then 0 else 1

end Sys2Proof
end

