-- ==== Sys2Proof/Config.lean ====
section
/-!
DEFINITION. What lies outside the core and is left open: the answers of intercept hooks
(20_memory.md R52, R54, R55; 92_eei_decisions.md D20), as free values, and the type of
interrupt-source names (00_scope.md R10, D27). The parameters for which the spec recommends a
default are definitions of Machine/Params.lean, Decode.lean and Machine/Flags.lean.
-/

namespace Sys2Proof

/-- A maskable-interrupt source's name: 00_scope.md R10 leaves `SourceId` open, "a type with decidable
equality" (D27). The natural numbers give as many names as any platform needs (log 9, DESIGN CHOICE, safe). -/
abbrev SourceId := Nat

/-- The `cpuContext` a hook is called with (20_memory.md R54): a hook "may freely read Register File
state" and the memory it is permitted to touch. It is all the core holds at the moment of the call, so
that a hook's answer may depend on any of it (log 24, safe). -/
structure CpuContext where
  pc : Word
  oldPc : Word
  a : Byte
  x : Byte
  y : Byte
  sp : Byte
  n : Bool
  v : Bool
  d : Bool
  i : Bool
  z : Bool
  c : Bool
  stopped : Bool
  waiting : Bool
  pending : List SourceId
  cycles : Nat
  mem : List Host.Cell
  deriving DecidableEq, Repr

/-- FREE VALUE (log 7). The byte that oracle hook `hook` answers to its read at `addr`, when it is the
`call`-th call of an oracle hook: "answered by the host; any byte 0..255" (20_memory.md R52). -/
opaque Config.hookReadByte (hook call : Nat) (addr : Word) (ctx : CpuContext) : Byte

/-- FREE VALUE (log 7). Whether oracle hook `hook` reports that it handled the write of `value` at
`addr`, when it is the `call`-th call of an oracle hook: "answered by the host" (20_memory.md R55). -/
opaque Config.hookWriteHandled (hook call : Nat) (value : Byte) (addr : Word) (ctx : CpuContext) : Bool

end Sys2Proof
end

