-- ==== Sys2Proof/Machine/State.lean ====
section
/-!
DEFINITION. The state of the core as plain data: all that 10_state.md R20 lists, the host's intercept
table (20_memory.md R51), and two fields of the model's own (`hookCalls`, log 7; `returned`, log 11).
The reset value of each field is `State.reset`; where the spec gives none, log 5 and log 6 name it.
-/

namespace Sys2Proof.Machine

/-- The six boolean flags, and no other (10_state.md R27, R28). -/
structure Flags where
  /-- Negative. -/
  n : Bool
  /-- Overflow. -/
  v : Bool
  /-- Decimal. -/
  d : Bool
  /-- InterruptDisable. -/
  i : Bool
  /-- Zero. -/
  z : Bool
  /-- Carry. -/
  c : Bool
  deriving DecidableEq, Repr

/-- What is bound at an intercepted address (20_memory.md R51). -/
inductive Hook where
  /-- A device's handler, named by a number: its answers are the host's, hence free values (R52, R54, R55, log 7). -/
  | oracle (id : Nat)
  /-- A read-only region: "an intercept whose write hook returns true" (R55); its read answers the byte
  Memory holds (log 8, DEDUCED). -/
  | rom
  deriving DecidableEq, Repr

/-- Everything the spec gives the machine between two steps. -/
structure State where
  /-- `PC` (10_state.md R21). -/
  pc : Word
  /-- `oldPC`, the debugging aid (R22). -/
  oldPc : Word
  /-- The accumulator (R23). -/
  a : Byte
  /-- Index register X (R24). -/
  x : Byte
  /-- Index register Y (R25). -/
  y : Byte
  /-- The stack pointer, an offset in page 1 (R26). -/
  sp : Byte
  /-- The six flags (R27). -/
  flags : Flags
  /-- Latched by STP (R33). -/
  stopped : Bool
  /-- Set by WAI (R34). -/
  waiting : Bool
  /-- The set of pending maskable sources, strictly rising (R35). -/
  pending : List SourceId
  /-- The cycle total of the instruction in progress (R40). -/
  cycles : Nat
  /-- Memory, canonical: strictly rising addresses, no entry equal to `unlistedByte` (20_memory.md R50). -/
  mem : List Host.Cell
  /-- The intercept table, strictly rising addresses (20_memory.md R51). The host's, held here (log 10). -/
  intercepts : List (Nat × Hook)
  /-- The model's own: how many oracle-hook calls were made (log 7). -/
  hookCalls : Nat
  /-- The model's own: the cycle count the last step returned (R100 stage 8, log 11). -/
  returned : Nat
  deriving DecidableEq, Repr

/-- There is no fault: "No instruction and no memory access can raise a fault, trap or error"
(60_exceptions.md R250). The type is empty, so no meaning can end in one (log 20, DEDUCED, safe). -/
inductive Fault : Type where
  deriving DecidableEq, Repr

/-- The refusals of `exec`. -/
inductive Refusal where
  /-- Raised by `exec`'s arm of an instruction that has no meaning yet, and by nothing else. Safe: the
  machine stops. No arm raises it now. -/
  | notModelled (mnemonic : String)
  deriving DecidableEq, Repr

/-- What a meaning and a step answer. -/
abbrev Result := Host.Outcome State Fault Refusal

/-- The machine right after `resetCpu()` (70_reset_and_hazards.md R280) on a core whose launch values
are those of log 5 and log 6: `A`, `X`, `Y` zero, `SP` 0xFD, `I` set, not stopped, not waiting,
`cycles` 0, and `PC` the word at the reset vector, which is 0x0000 in a memory with nothing listed. -/
def State.reset : State where
  pc := 0x0000#16
  oldPc := 0x0000#16
  a := 0x00#8
  x := 0x00#8
  y := 0x00#8
  sp := 0xFD#8
  flags := ⟨false, false, false, true, false, false⟩
  stopped := false
  waiting := false
  pending := []
  cycles := 0
  mem := []
  intercepts := []
  hookCalls := 0
  returned := 0

end Sys2Proof.Machine
end

