-- ==== Sys2Proof/Machine/Flags.lean ====
section
/-!
DEFINITION. Every flag computation: the flags byte (10_state.md R29, R30), the helpers of
40_engine_and_addressing.md R122 to R124, and the arithmetic of 42_arithmetic.md R160 to R164,
binary and decimal.
-/

namespace Sys2Proof.Machine

/-- `FlagsByte(brk)` (R29): N7 V6 1 brk4 D3 I2 Z1 C0. The bit positions are decision D4 (log 2). -/
def flagsByte (f : Flags) (brk : Bool) : Byte :=
  BitVec.ofNat 8 (f.n.toNat * 128 + f.v.toNat * 64 + 32 + brk.toNat * 16 + f.d.toNat * 8
    + f.i.toNat * 4 + f.z.toNat * 2 + f.c.toNat)

/-- `SetFlagsByte(b)` (R30): the six flags from bits 7, 6, 3, 2, 1, 0; bits 5 and 4 are ignored. -/
def flagsOfByte (b : Byte) : Flags where
  n := bitAt b 7
  v := bitAt b 6
  d := bitAt b 3
  i := bitAt b 2
  z := bitAt b 1
  c := bitAt b 0

/-- `SetNZ(v)` (R122), on the value modulo 256. -/
def Flags.setNZ (f : Flags) (v : Byte) : Flags :=
  { f with n := bitAt v 7, z := decide (v = 0#8) }

/-- `SetCarryFromAdd(r)` (R123): bit 8 of the accumulation result. -/
def carryFromAdd (r : Nat) : Bool := decide (256 ≤ r)

/-- `SetCarryFromSub(r)` (R124): "no borrow". -/
def carryFromSub (r : Int) : Bool := decide (0 ≤ r)

/-- What ADC and SBC leave: the accumulator and the four flags they write. -/
structure ArithResult where
  a : Byte
  n : Bool
  v : Bool
  z : Bool
  c : Bool
  deriving DecidableEq, Repr

/-- Binary ADC (R160): operands, the sum `A + M + C`, carry out of bit 7, signed overflow. -/
def binaryAdc (a m : Byte) (c : Bool) : ArithResult :=
  let t : Nat := a.toNat + m.toNat + c.toNat
  let r : Byte := BitVec.ofNat 8 t
  { a := r, n := bitAt r 7, v := bitAt (~~~(a ^^^ m) &&& (a ^^^ r)) 7, z := decide (r = 0#8)
    c := carryFromAdd t }

/-- Binary SBC (R162): the difference `A - M - (1 - C)`, carry as "no borrow", signed overflow. -/
def binarySbc (a m : Byte) (c : Bool) : ArithResult :=
  let d : Int := (a.toNat : Int) - (m.toNat : Int) - (1 - (c.toNat : Int))
  let r : Byte := BitVec.ofInt 8 d
  { a := r, n := bitAt r 7, v := bitAt ((a ^^^ m) &&& (a ^^^ r)) 7, z := decide (r = 0#8)
    c := carryFromSub d }

/-- `DecimalAdc(A, M, C)` (R161), the spec's default algorithm, total on every operand (D6, D28, log 4). -/
def decimalAdc (a m : Byte) (c : Bool) : ArithResult :=
  let al0 : Nat := a.toNat % 16 + m.toNat % 16 + c.toNat
  let al : Nat := if 0x0A ≤ al0 then (al0 + 0x06) % 16 + 0x10 else al0
  let t0 : Nat := a.toNat / 16 * 16 + m.toNat / 16 * 16 + al
  let t : Nat := if 0xA0 ≤ t0 then t0 + 0x60 else t0
  let r : Byte := BitVec.ofNat 8 t
  { a := r, n := bitAt r 7, v := bitAt (~~~(a ^^^ m) &&& (a ^^^ BitVec.ofNat 8 t0)) 7
    z := decide (r = 0#8), c := decide (0x100 ≤ t) }

/-- `DecimalSbc(A, M, C)` (R163), the spec's default algorithm, total on every operand (D7, D28, log 4).
`C` and `V` are those of the binary difference. -/
def decimalSbc (a m : Byte) (c : Bool) : ArithResult :=
  let b : Int := 1 - (c.toNat : Int)
  let d : Int := (a.toNat : Int) - (m.toNat : Int) - b
  let al0 : Int := ((a.toNat % 16 : Nat) : Int) - ((m.toNat % 16 : Nat) : Int) - b
  let al : Int := if al0 < 0 then (al0 - 0x06) % 16 - 0x10 else al0
  let r0 : Int := ((a.toNat / 16 * 16 : Nat) : Int) - ((m.toNat / 16 * 16 : Nat) : Int) + al
  let r1 : Int := if r0 < 0 then r0 - 0x60 else r0
  let r : Byte := BitVec.ofInt 8 r1
  { a := r, n := bitAt r 7, v := bitAt ((a ^^^ m) &&& (a ^^^ BitVec.ofInt 8 d)) 7
    z := decide (r = 0#8), c := decide (0 ≤ d) }

/-- The flags after ADC or SBC: `N V Z C` written, `D I` unchanged (R160, R162). -/
def Flags.setArith (f : Flags) (r : ArithResult) : Flags :=
  { f with n := r.n, v := r.v, z := r.z, c := r.c }

/-- The flags after comparing `r` with `m` (R164): `C` as "no borrow", `N Z` from the raw difference;
`D` and `C` are not read (D34). -/
def Flags.setCompare (f : Flags) (r m : Byte) : Flags :=
  let t : Int := (r.toNat : Int) - (m.toNat : Int)
  { f.setNZ (BitVec.ofInt 8 t) with c := carryFromSub t }

/-- `Z <- ((A & M) = 0)`, the test of BIT, TRB and TSB (R183, R188, R189). -/
def Flags.setTest (f : Flags) (a m : Byte) : Flags :=
  { f with z := decide (a &&& m = 0#8) }

/-- `SetNZ(v)` with a new carry, the flags of the shifts and rotates (R184 to R187). -/
def Flags.setShift (f : Flags) (v : Byte) (carry : Bool) : Flags :=
  { f.setNZ v with c := carry }

/-- The flags an interrupt entry leaves: `D <- false`, `I <- true` (R253). -/
def Flags.enterInterrupt (f : Flags) : Flags := { f with d := false, i := true }

end Sys2Proof.Machine
end

