-- ==== Sys2Proof/Machine/Memory.lean ====
section
/-!
DEFINITION. The memory array (20_memory.md R50) as a list of address and byte pairs in one canonical
form, and the lookup tables kept in the same style. Intercepts are in Machine/Ops.lean; nothing here
calls a hook.
-/

namespace Sys2Proof.Machine

/-- What a byte that nothing has written reads as: the spec leaves it unspecified (10_state.md R44,
70_reset_and_hazards.md R282) and every address holds a byte and none faults (20_memory.md R58).
The value 0x00 is the model's (log 6, DESIGN CHOICE, unsafe). -/
def unlistedByte : Byte := 0#8

/-- The byte at address `a`. -/
def memGet : List Host.Cell → Nat → Byte
  | [], _ => unlistedByte
  | (k, b) :: rest, a => if k = a then b else memGet rest a

/-- The memory with byte `v` at address `a`. It keeps the canonical form: writing what an unlisted
address reads as removes the entry. -/
def memPut : List Host.Cell → Nat → Byte → List Host.Cell
  | [], a, v => if v = unlistedByte then [] else [(a, v)]
  | (k, b) :: rest, a, v =>
    if k < a then (k, b) :: memPut rest a v
    else if k = a then (if v = unlistedByte then rest else (a, v) :: rest)
    else if v = unlistedByte then (k, b) :: rest else (a, v) :: (k, b) :: rest

/-- The keys of `m` rise strictly, all at least `lo` and below 65536, and no entry is what an unlisted
address reads as. -/
def memWfFrom : Nat → List Host.Cell → Bool
  | _, [] => true
  | lo, (k, b) :: rest =>
    decide (lo ≤ k) && decide (k < 65536) && decide (b ≠ unlistedByte) && memWfFrom (k + 1) rest

/-- The canonical form of memory over the 65536 addresses of R50. -/
def Memory.wf (m : List Host.Cell) : Bool := memWfFrom 0 m

end Sys2Proof.Machine
end

