-- ==== Sys2Proof/Syntax.lean ====
section
/-!
DEFINITION. The instructions: one constructor per row of spec/opcode_table.json (30_encoding.md R82,
R84, R86), first the rows with operand bytes and then those without, each in the table's order
(Lean's compiler numbers at most 244 constructors with fields). A constructor's fields are the operand
bytes of the row's format (R81): `v` an immediate value, `zadr` a zero-page address, `addr` and `ptr` 16-bit addresses, `disp` a
signed displacement. The opcode values are the spec's decision D1 (log 1).
-/

namespace Sys2Proof

/-- An instruction of the core. Each constructor's comment is its opcode and its assembler syntax (R90). -/
inductive Instr where
  /-- `01` ORA (zadr,X) -/
  | oraIzx (zadr : Byte)
  /-- `04` TSB zadr -/
  | tsbZp (zadr : Byte)
  /-- `05` ORA zadr -/
  | oraZp (zadr : Byte)
  /-- `06` ASL zadr -/
  | aslZp (zadr : Byte)
  /-- `07` RMB0 zadr -/
  | rmb0 (zadr : Byte)
  /-- `09` ORA #v -/
  | oraImm (v : Byte)
  /-- `0C` TSB addr -/
  | tsbAbs (addr : Word)
  /-- `0D` ORA addr -/
  | oraAbs (addr : Word)
  /-- `0E` ASL addr -/
  | aslAbs (addr : Word)
  /-- `0F` BBR0 zadr,disp -/
  | bbr0 (zadr disp : Byte)
  /-- `10` BPL disp -/
  | bpl (disp : Byte)
  /-- `11` ORA (zadr),Y -/
  | oraIzy (zadr : Byte)
  /-- `12` ORA (zadr) -/
  | oraIzp (zadr : Byte)
  /-- `14` TRB zadr -/
  | trbZp (zadr : Byte)
  /-- `15` ORA zadr,X -/
  | oraZpx (zadr : Byte)
  /-- `16` ASL zadr,X -/
  | aslZpx (zadr : Byte)
  /-- `17` RMB1 zadr -/
  | rmb1 (zadr : Byte)
  /-- `19` ORA addr,Y -/
  | oraAby (addr : Word)
  /-- `1C` TRB addr -/
  | trbAbs (addr : Word)
  /-- `1D` ORA addr,X -/
  | oraAbx (addr : Word)
  /-- `1E` ASL addr,X -/
  | aslAbx (addr : Word)
  /-- `1F` BBR1 zadr,disp -/
  | bbr1 (zadr disp : Byte)
  /-- `20` JSR addr -/
  | jsr (addr : Word)
  /-- `21` AND (zadr,X) -/
  | andIzx (zadr : Byte)
  /-- `24` BIT zadr -/
  | bitZp (zadr : Byte)
  /-- `25` AND zadr -/
  | andZp (zadr : Byte)
  /-- `26` ROL zadr -/
  | rolZp (zadr : Byte)
  /-- `27` RMB2 zadr -/
  | rmb2 (zadr : Byte)
  /-- `29` AND #v -/
  | andImm (v : Byte)
  /-- `2C` BIT addr -/
  | bitAbs (addr : Word)
  /-- `2D` AND addr -/
  | andAbs (addr : Word)
  /-- `2E` ROL addr -/
  | rolAbs (addr : Word)
  /-- `2F` BBR2 zadr,disp -/
  | bbr2 (zadr disp : Byte)
  /-- `30` BMI disp -/
  | bmi (disp : Byte)
  /-- `31` AND (zadr),Y -/
  | andIzy (zadr : Byte)
  /-- `32` AND (zadr) -/
  | andIzp (zadr : Byte)
  /-- `34` BIT zadr,X -/
  | bitZpx (zadr : Byte)
  /-- `35` AND zadr,X -/
  | andZpx (zadr : Byte)
  /-- `36` ROL zadr,X -/
  | rolZpx (zadr : Byte)
  /-- `37` RMB3 zadr -/
  | rmb3 (zadr : Byte)
  /-- `39` AND addr,Y -/
  | andAby (addr : Word)
  /-- `3C` BIT addr,X -/
  | bitAbx (addr : Word)
  /-- `3D` AND addr,X -/
  | andAbx (addr : Word)
  /-- `3E` ROL addr,X -/
  | rolAbx (addr : Word)
  /-- `3F` BBR3 zadr,disp -/
  | bbr3 (zadr disp : Byte)
  /-- `41` EOR (zadr,X) -/
  | eorIzx (zadr : Byte)
  /-- `45` EOR zadr -/
  | eorZp (zadr : Byte)
  /-- `46` LSR zadr -/
  | lsrZp (zadr : Byte)
  /-- `47` RMB4 zadr -/
  | rmb4 (zadr : Byte)
  /-- `49` EOR #v -/
  | eorImm (v : Byte)
  /-- `4C` JMP addr -/
  | jmpAbs (addr : Word)
  /-- `4D` EOR addr -/
  | eorAbs (addr : Word)
  /-- `4E` LSR addr -/
  | lsrAbs (addr : Word)
  /-- `4F` BBR4 zadr,disp -/
  | bbr4 (zadr disp : Byte)
  /-- `50` BVC disp -/
  | bvc (disp : Byte)
  /-- `51` EOR (zadr),Y -/
  | eorIzy (zadr : Byte)
  /-- `52` EOR (zadr) -/
  | eorIzp (zadr : Byte)
  /-- `55` EOR zadr,X -/
  | eorZpx (zadr : Byte)
  /-- `56` LSR zadr,X -/
  | lsrZpx (zadr : Byte)
  /-- `57` RMB5 zadr -/
  | rmb5 (zadr : Byte)
  /-- `59` EOR addr,Y -/
  | eorAby (addr : Word)
  /-- `5D` EOR addr,X -/
  | eorAbx (addr : Word)
  /-- `5E` LSR addr,X -/
  | lsrAbx (addr : Word)
  /-- `5F` BBR5 zadr,disp -/
  | bbr5 (zadr disp : Byte)
  /-- `61` ADC (zadr,X) -/
  | adcIzx (zadr : Byte)
  /-- `64` STZ zadr -/
  | stzZp (zadr : Byte)
  /-- `65` ADC zadr -/
  | adcZp (zadr : Byte)
  /-- `66` ROR zadr -/
  | rorZp (zadr : Byte)
  /-- `67` RMB6 zadr -/
  | rmb6 (zadr : Byte)
  /-- `69` ADC #v -/
  | adcImm (v : Byte)
  /-- `6C` JMP (ptr) -/
  | jmpInd (ptr : Word)
  /-- `6D` ADC addr -/
  | adcAbs (addr : Word)
  /-- `6E` ROR addr -/
  | rorAbs (addr : Word)
  /-- `6F` BBR6 zadr,disp -/
  | bbr6 (zadr disp : Byte)
  /-- `70` BVS disp -/
  | bvs (disp : Byte)
  /-- `71` ADC (zadr),Y -/
  | adcIzy (zadr : Byte)
  /-- `72` ADC (zadr) -/
  | adcIzp (zadr : Byte)
  /-- `74` STZ zadr,X -/
  | stzZpx (zadr : Byte)
  /-- `75` ADC zadr,X -/
  | adcZpx (zadr : Byte)
  /-- `76` ROR zadr,X -/
  | rorZpx (zadr : Byte)
  /-- `77` RMB7 zadr -/
  | rmb7 (zadr : Byte)
  /-- `79` ADC addr,Y -/
  | adcAby (addr : Word)
  /-- `7C` JMP (ptr,X) -/
  | jmpIax (ptr : Word)
  /-- `7D` ADC addr,X -/
  | adcAbx (addr : Word)
  /-- `7E` ROR addr,X -/
  | rorAbx (addr : Word)
  /-- `7F` BBR7 zadr,disp -/
  | bbr7 (zadr disp : Byte)
  /-- `80` BRA disp -/
  | bra (disp : Byte)
  /-- `81` STA (zadr,X) -/
  | staIzx (zadr : Byte)
  /-- `84` STY zadr -/
  | styZp (zadr : Byte)
  /-- `85` STA zadr -/
  | staZp (zadr : Byte)
  /-- `86` STX zadr -/
  | stxZp (zadr : Byte)
  /-- `87` SMB0 zadr -/
  | smb0 (zadr : Byte)
  /-- `89` BIT #v -/
  | bitImm (v : Byte)
  /-- `8C` STY addr -/
  | styAbs (addr : Word)
  /-- `8D` STA addr -/
  | staAbs (addr : Word)
  /-- `8E` STX addr -/
  | stxAbs (addr : Word)
  /-- `8F` BBS0 zadr,disp -/
  | bbs0 (zadr disp : Byte)
  /-- `90` BCC disp -/
  | bcc (disp : Byte)
  /-- `91` STA (zadr),Y -/
  | staIzy (zadr : Byte)
  /-- `92` STA (zadr) -/
  | staIzp (zadr : Byte)
  /-- `94` STY zadr,X -/
  | styZpx (zadr : Byte)
  /-- `95` STA zadr,X -/
  | staZpx (zadr : Byte)
  /-- `96` STX zadr,Y -/
  | stxZpy (zadr : Byte)
  /-- `97` SMB1 zadr -/
  | smb1 (zadr : Byte)
  /-- `99` STA addr,Y -/
  | staAby (addr : Word)
  /-- `9C` STZ addr -/
  | stzAbs (addr : Word)
  /-- `9D` STA addr,X -/
  | staAbx (addr : Word)
  /-- `9E` STZ addr,X -/
  | stzAbx (addr : Word)
  /-- `9F` BBS1 zadr,disp -/
  | bbs1 (zadr disp : Byte)
  /-- `A0` LDY #v -/
  | ldyImm (v : Byte)
  /-- `A1` LDA (zadr,X) -/
  | ldaIzx (zadr : Byte)
  /-- `A2` LDX #v -/
  | ldxImm (v : Byte)
  /-- `A4` LDY zadr -/
  | ldyZp (zadr : Byte)
  /-- `A5` LDA zadr -/
  | ldaZp (zadr : Byte)
  /-- `A6` LDX zadr -/
  | ldxZp (zadr : Byte)
  /-- `A7` SMB2 zadr -/
  | smb2 (zadr : Byte)
  /-- `A9` LDA #v -/
  | ldaImm (v : Byte)
  /-- `AC` LDY addr -/
  | ldyAbs (addr : Word)
  /-- `AD` LDA addr -/
  | ldaAbs (addr : Word)
  /-- `AE` LDX addr -/
  | ldxAbs (addr : Word)
  /-- `AF` BBS2 zadr,disp -/
  | bbs2 (zadr disp : Byte)
  /-- `B0` BCS disp -/
  | bcs (disp : Byte)
  /-- `B1` LDA (zadr),Y -/
  | ldaIzy (zadr : Byte)
  /-- `B2` LDA (zadr) -/
  | ldaIzp (zadr : Byte)
  /-- `B4` LDY zadr,X -/
  | ldyZpx (zadr : Byte)
  /-- `B5` LDA zadr,X -/
  | ldaZpx (zadr : Byte)
  /-- `B6` LDX zadr,Y -/
  | ldxZpy (zadr : Byte)
  /-- `B7` SMB3 zadr -/
  | smb3 (zadr : Byte)
  /-- `B9` LDA addr,Y -/
  | ldaAby (addr : Word)
  /-- `BC` LDY addr,X -/
  | ldyAbx (addr : Word)
  /-- `BD` LDA addr,X -/
  | ldaAbx (addr : Word)
  /-- `BE` LDX addr,Y -/
  | ldxAby (addr : Word)
  /-- `BF` BBS3 zadr,disp -/
  | bbs3 (zadr disp : Byte)
  /-- `C0` CPY #v -/
  | cpyImm (v : Byte)
  /-- `C1` CMP (zadr,X) -/
  | cmpIzx (zadr : Byte)
  /-- `C4` CPY zadr -/
  | cpyZp (zadr : Byte)
  /-- `C5` CMP zadr -/
  | cmpZp (zadr : Byte)
  /-- `C6` DEC zadr -/
  | decZp (zadr : Byte)
  /-- `C7` SMB4 zadr -/
  | smb4 (zadr : Byte)
  /-- `C9` CMP #v -/
  | cmpImm (v : Byte)
  /-- `CC` CPY addr -/
  | cpyAbs (addr : Word)
  /-- `CD` CMP addr -/
  | cmpAbs (addr : Word)
  /-- `CE` DEC addr -/
  | decAbs (addr : Word)
  /-- `CF` BBS4 zadr,disp -/
  | bbs4 (zadr disp : Byte)
  /-- `D0` BNE disp -/
  | bne (disp : Byte)
  /-- `D1` CMP (zadr),Y -/
  | cmpIzy (zadr : Byte)
  /-- `D2` CMP (zadr) -/
  | cmpIzp (zadr : Byte)
  /-- `D5` CMP zadr,X -/
  | cmpZpx (zadr : Byte)
  /-- `D6` DEC zadr,X -/
  | decZpx (zadr : Byte)
  /-- `D7` SMB5 zadr -/
  | smb5 (zadr : Byte)
  /-- `D9` CMP addr,Y -/
  | cmpAby (addr : Word)
  /-- `DD` CMP addr,X -/
  | cmpAbx (addr : Word)
  /-- `DE` DEC addr,X -/
  | decAbx (addr : Word)
  /-- `DF` BBS5 zadr,disp -/
  | bbs5 (zadr disp : Byte)
  /-- `E0` CPX #v -/
  | cpxImm (v : Byte)
  /-- `E1` SBC (zadr,X) -/
  | sbcIzx (zadr : Byte)
  /-- `E4` CPX zadr -/
  | cpxZp (zadr : Byte)
  /-- `E5` SBC zadr -/
  | sbcZp (zadr : Byte)
  /-- `E6` INC zadr -/
  | incZp (zadr : Byte)
  /-- `E7` SMB6 zadr -/
  | smb6 (zadr : Byte)
  /-- `E9` SBC #v -/
  | sbcImm (v : Byte)
  /-- `EC` CPX addr -/
  | cpxAbs (addr : Word)
  /-- `ED` SBC addr -/
  | sbcAbs (addr : Word)
  /-- `EE` INC addr -/
  | incAbs (addr : Word)
  /-- `EF` BBS6 zadr,disp -/
  | bbs6 (zadr disp : Byte)
  /-- `F0` BEQ disp -/
  | beq (disp : Byte)
  /-- `F1` SBC (zadr),Y -/
  | sbcIzy (zadr : Byte)
  /-- `F2` SBC (zadr) -/
  | sbcIzp (zadr : Byte)
  /-- `F5` SBC zadr,X -/
  | sbcZpx (zadr : Byte)
  /-- `F6` INC zadr,X -/
  | incZpx (zadr : Byte)
  /-- `F7` SMB7 zadr -/
  | smb7 (zadr : Byte)
  /-- `F9` SBC addr,Y -/
  | sbcAby (addr : Word)
  /-- `FD` SBC addr,X -/
  | sbcAbx (addr : Word)
  /-- `FE` INC addr,X -/
  | incAbx (addr : Word)
  /-- `FF` BBS7 zadr,disp -/
  | bbs7 (zadr disp : Byte)
  /-- `00` BRK -/
  | brk
  /-- `02` ILL -/
  | ill02
  /-- `03` ILL -/
  | ill03
  /-- `08` PHP -/
  | php
  /-- `0A` ASL A -/
  | aslAcc
  /-- `0B` ILL -/
  | ill0B
  /-- `13` ILL -/
  | ill13
  /-- `18` CLC -/
  | clc
  /-- `1A` INC A -/
  | incAcc
  /-- `1B` ILL -/
  | ill1B
  /-- `22` ILL -/
  | ill22
  /-- `23` ILL -/
  | ill23
  /-- `28` PLP -/
  | plp
  /-- `2A` ROL A -/
  | rolAcc
  /-- `2B` ILL -/
  | ill2B
  /-- `33` ILL -/
  | ill33
  /-- `38` SEC -/
  | sec
  /-- `3A` DEC A -/
  | decAcc
  /-- `3B` ILL -/
  | ill3B
  /-- `40` RTI -/
  | rti
  /-- `42` ILL -/
  | ill42
  /-- `43` ILL -/
  | ill43
  /-- `44` ILL -/
  | ill44
  /-- `48` PHA -/
  | pha
  /-- `4A` LSR A -/
  | lsrAcc
  /-- `4B` ILL -/
  | ill4B
  /-- `53` ILL -/
  | ill53
  /-- `54` ILL -/
  | ill54
  /-- `58` CLI -/
  | cli
  /-- `5A` PHY -/
  | phy
  /-- `5B` ILL -/
  | ill5B
  /-- `5C` ILL -/
  | ill5C
  /-- `60` RTS -/
  | rts
  /-- `62` ILL -/
  | ill62
  /-- `63` ILL -/
  | ill63
  /-- `68` PLA -/
  | pla
  /-- `6A` ROR A -/
  | rorAcc
  /-- `6B` ILL -/
  | ill6B
  /-- `73` ILL -/
  | ill73
  /-- `78` SEI -/
  | sei
  /-- `7A` PLY -/
  | ply
  /-- `7B` ILL -/
  | ill7B
  /-- `82` ILL -/
  | ill82
  /-- `83` ILL -/
  | ill83
  /-- `88` DEY -/
  | dey
  /-- `8A` TXA -/
  | txa
  /-- `8B` ILL -/
  | ill8B
  /-- `93` ILL -/
  | ill93
  /-- `98` TYA -/
  | tya
  /-- `9A` TXS -/
  | txs
  /-- `9B` ILL -/
  | ill9B
  /-- `A3` ILL -/
  | illA3
  /-- `A8` TAY -/
  | tay
  /-- `AA` TAX -/
  | tax
  /-- `AB` ILL -/
  | illAB
  /-- `B3` ILL -/
  | illB3
  /-- `B8` CLV -/
  | clv
  /-- `BA` TSX -/
  | tsx
  /-- `BB` ILL -/
  | illBB
  /-- `C2` ILL -/
  | illC2
  /-- `C3` ILL -/
  | illC3
  /-- `C8` INY -/
  | iny
  /-- `CA` DEX -/
  | dex
  /-- `CB` WAI -/
  | wai
  /-- `D3` ILL -/
  | illD3
  /-- `D4` ILL -/
  | illD4
  /-- `D8` CLD -/
  | cld
  /-- `DA` PHX -/
  | phx
  /-- `DB` STP -/
  | stp
  /-- `DC` ILL -/
  | illDC
  /-- `E2` ILL -/
  | illE2
  /-- `E3` ILL -/
  | illE3
  /-- `E8` INX -/
  | inx
  /-- `EA` NOP -/
  | nop
  /-- `EB` ILL -/
  | illEB
  /-- `F3` ILL -/
  | illF3
  /-- `F4` ILL -/
  | illF4
  /-- `F8` SED -/
  | sed
  /-- `FA` PLX -/
  | plx
  /-- `FB` ILL -/
  | illFB
  /-- `FC` ILL -/
  | illFC
  deriving DecidableEq, Repr

end Sys2Proof
end

