-- ==== Sys2Proof/WellFormed.lean ====
section
/-!
DEFINITION. An instruction seen as the dispatch table sees it (30_encoding.md R82): an operation and
an addressing mode with its operand bytes. The well-formedness check: the pair is one that the rule
of the operation lists under "Operands" (files 41 to 45). Every field of `Instr` has exactly its
encoding's width, so there is nothing else to check.
-/

namespace Sys2Proof

/-- The byte layouts of 30_encoding.md R81. -/
inductive Layout where
  /-- The opcode alone. -/
  | f0
  /-- One operand byte. -/
  | f1
  /-- A little-endian word. -/
  | f2
  /-- A zero-page address, then a displacement. -/
  | f3
  deriving DecidableEq, Repr

/-- `operandByteCount` of a layout (R81). -/
def Layout.byteCount : Layout → Nat
  | .f0 => 0
  | .f1 => 1
  | .f2 => 2
  | .f3 => 2

/-- The 16 addressing modes (40_engine_and_addressing.md R105). -/
inductive Mode where
  /-- Implied, R106. -/
  | imp
  /-- Accumulator, R107. -/
  | acc
  /-- Immediate, R108. -/
  | imm
  /-- Zero page, R109. -/
  | zp
  /-- Zero page indexed by X, R110. -/
  | zpx
  /-- Zero page indexed by Y, R111. -/
  | zpy
  /-- Absolute, R112. -/
  | abs
  /-- Absolute indexed by X, R113. -/
  | abx
  /-- Absolute indexed by Y, R114. -/
  | aby
  /-- Indirect, R115. -/
  | ind
  /-- Indexed indirect, R116. -/
  | izx
  /-- Indirect indexed, R117. -/
  | izy
  /-- Zero-page indirect, R118. -/
  | izp
  /-- Absolute indexed indirect, R119. -/
  | iax
  /-- Relative, R120. -/
  | rel
  /-- Zero page and relative, R121. -/
  | zpr
  deriving DecidableEq, Repr

/-- The byte layout of each mode (R81, R105). -/
def Mode.layout : Mode → Layout
  | .imp => .f0
  | .acc => .f0
  | .imm => .f1
  | .zp => .f1
  | .zpx => .f1
  | .zpy => .f1
  | .abs => .f2
  | .abx => .f2
  | .aby => .f2
  | .ind => .f2
  | .izx => .f1
  | .izy => .f1
  | .izp => .f1
  | .iax => .f2
  | .rel => .f1
  | .zpr => .f3

/-- `operandByteCount` of each mode (R105). -/
def Mode.byteCount (m : Mode) : Nat := m.layout.byteCount

/-- An addressing mode together with its operand bytes. -/
inductive Operand where
  | imp
  | acc
  | imm (v : Byte)
  | zp (zadr : Byte)
  | zpx (zadr : Byte)
  | zpy (zadr : Byte)
  | abs (addr : Word)
  | abx (addr : Word)
  | aby (addr : Word)
  | ind (ptr : Word)
  | izx (zadr : Byte)
  | izy (zadr : Byte)
  | izp (zadr : Byte)
  | iax (ptr : Word)
  | rel (disp : Byte)
  | zpr (zadr disp : Byte)
  deriving DecidableEq, Repr

/-- The mode of an operand. -/
def Operand.mode : Operand → Mode
  | .imp => .imp
  | .acc => .acc
  | .imm _ => .imm
  | .zp _ => .zp
  | .zpx _ => .zpx
  | .zpy _ => .zpy
  | .abs _ => .abs
  | .abx _ => .abx
  | .aby _ => .aby
  | .ind _ => .ind
  | .izx _ => .izx
  | .izy _ => .izy
  | .izp _ => .izp
  | .iax _ => .iax
  | .rel _ => .rel
  | .zpr _ _ => .zpr

/-- The operations of the dispatch table, one per mnemonic of files 41 to 45; the Rockwell four carry
their bit number, `ill` is the no-operation of the illegal opcodes. -/
inductive Operation where
  /-- LDA, R140. -/
  | lda
  /-- LDX, R141. -/
  | ldx
  /-- LDY, R142. -/
  | ldy
  /-- STA, R143. -/
  | sta
  /-- STX, R144. -/
  | stx
  /-- STY, R145. -/
  | sty
  /-- STZ, R146. -/
  | stz
  /-- TAX, R147. -/
  | tax
  /-- TAY, R148. -/
  | tay
  /-- TXA, R149. -/
  | txa
  /-- TYA, R150. -/
  | tya
  /-- TSX, R151. -/
  | tsx
  /-- TXS, R152. -/
  | txs
  /-- ADC, R160. -/
  | adc
  /-- SBC, R162. -/
  | sbc
  /-- CMP, R164. -/
  | cmp
  /-- CPX, R165. -/
  | cpx
  /-- CPY, R166. -/
  | cpy
  /-- INC, R167. -/
  | inc
  /-- DEC, R168. -/
  | dec
  /-- INX, R169. -/
  | inx
  /-- INY, R170. -/
  | iny
  /-- DEX, R171. -/
  | dex
  /-- DEY, R172. -/
  | dey
  /-- AND, R180. -/
  | and
  /-- ORA, R181. -/
  | ora
  /-- EOR, R182. -/
  | eor
  /-- BIT, R183. -/
  | bit
  /-- ASL, R184. -/
  | asl
  /-- LSR, R185. -/
  | lsr
  /-- ROL, R186. -/
  | rol
  /-- ROR, R187. -/
  | ror
  /-- TRB, R188. -/
  | trb
  /-- TSB, R189. -/
  | tsb
  /-- RMBn, R190. -/
  | rmb (n : Fin 8)
  /-- SMBn, R191. -/
  | smb (n : Fin 8)
  /-- BCC, R201. -/
  | bcc
  /-- BCS, R202. -/
  | bcs
  /-- BEQ, R203. -/
  | beq
  /-- BNE, R204. -/
  | bne
  /-- BMI, R205. -/
  | bmi
  /-- BPL, R206. -/
  | bpl
  /-- BVC, R207. -/
  | bvc
  /-- BVS, R208. -/
  | bvs
  /-- BRA, R209. -/
  | bra
  /-- BBRn, R210. -/
  | bbr (n : Fin 8)
  /-- BBSn, R211. -/
  | bbs (n : Fin 8)
  /-- JMP, R212. -/
  | jmp
  /-- JSR, R213. -/
  | jsr
  /-- RTS, R214. -/
  | rts
  /-- PHA, R220. -/
  | pha
  /-- PHP, R221. -/
  | php
  /-- PHX, R222. -/
  | phx
  /-- PHY, R223. -/
  | phy
  /-- PLA, R224. -/
  | pla
  /-- PLP, R225. -/
  | plp
  /-- PLX, R226. -/
  | plx
  /-- PLY, R227. -/
  | ply
  /-- CLC, R228. -/
  | clc
  /-- CLD, R229. -/
  | cld
  /-- CLI, R230. -/
  | cli
  /-- CLV, R231. -/
  | clv
  /-- SEC, R232. -/
  | sec
  /-- SED, R233. -/
  | sed
  /-- SEI, R234. -/
  | sei
  /-- NOP, R235. -/
  | nop
  /-- BRK, R236. -/
  | brk
  /-- RTI, R237. -/
  | rti
  /-- ILL, R238. -/
  | ill
  /-- STP, R240. -/
  | stp
  /-- WAI, R241. -/
  | wai
  deriving DecidableEq, Repr

/-- Whether the operation is the no-operation of the illegal opcodes (R87). -/
def Operation.isIll : Operation → Bool
  | .ill => true
  | _ => false

/-- The operation and the operand of each instruction: its table row (R82, opcode_table.json). -/
def Instr.form : Instr → Operation × Operand
  | .oraIzx zadr => (.ora, .izx zadr)
  | .tsbZp zadr => (.tsb, .zp zadr)
  | .oraZp zadr => (.ora, .zp zadr)
  | .aslZp zadr => (.asl, .zp zadr)
  | .rmb0 zadr => (.rmb 0, .zp zadr)
  | .oraImm v => (.ora, .imm v)
  | .tsbAbs addr => (.tsb, .abs addr)
  | .oraAbs addr => (.ora, .abs addr)
  | .aslAbs addr => (.asl, .abs addr)
  | .bbr0 zadr disp => (.bbr 0, .zpr zadr disp)
  | .bpl disp => (.bpl, .rel disp)
  | .oraIzy zadr => (.ora, .izy zadr)
  | .oraIzp zadr => (.ora, .izp zadr)
  | .trbZp zadr => (.trb, .zp zadr)
  | .oraZpx zadr => (.ora, .zpx zadr)
  | .aslZpx zadr => (.asl, .zpx zadr)
  | .rmb1 zadr => (.rmb 1, .zp zadr)
  | .oraAby addr => (.ora, .aby addr)
  | .trbAbs addr => (.trb, .abs addr)
  | .oraAbx addr => (.ora, .abx addr)
  | .aslAbx addr => (.asl, .abx addr)
  | .bbr1 zadr disp => (.bbr 1, .zpr zadr disp)
  | .jsr addr => (.jsr, .abs addr)
  | .andIzx zadr => (.and, .izx zadr)
  | .bitZp zadr => (.bit, .zp zadr)
  | .andZp zadr => (.and, .zp zadr)
  | .rolZp zadr => (.rol, .zp zadr)
  | .rmb2 zadr => (.rmb 2, .zp zadr)
  | .andImm v => (.and, .imm v)
  | .bitAbs addr => (.bit, .abs addr)
  | .andAbs addr => (.and, .abs addr)
  | .rolAbs addr => (.rol, .abs addr)
  | .bbr2 zadr disp => (.bbr 2, .zpr zadr disp)
  | .bmi disp => (.bmi, .rel disp)
  | .andIzy zadr => (.and, .izy zadr)
  | .andIzp zadr => (.and, .izp zadr)
  | .bitZpx zadr => (.bit, .zpx zadr)
  | .andZpx zadr => (.and, .zpx zadr)
  | .rolZpx zadr => (.rol, .zpx zadr)
  | .rmb3 zadr => (.rmb 3, .zp zadr)
  | .andAby addr => (.and, .aby addr)
  | .bitAbx addr => (.bit, .abx addr)
  | .andAbx addr => (.and, .abx addr)
  | .rolAbx addr => (.rol, .abx addr)
  | .bbr3 zadr disp => (.bbr 3, .zpr zadr disp)
  | .eorIzx zadr => (.eor, .izx zadr)
  | .eorZp zadr => (.eor, .zp zadr)
  | .lsrZp zadr => (.lsr, .zp zadr)
  | .rmb4 zadr => (.rmb 4, .zp zadr)
  | .eorImm v => (.eor, .imm v)
  | .jmpAbs addr => (.jmp, .abs addr)
  | .eorAbs addr => (.eor, .abs addr)
  | .lsrAbs addr => (.lsr, .abs addr)
  | .bbr4 zadr disp => (.bbr 4, .zpr zadr disp)
  | .bvc disp => (.bvc, .rel disp)
  | .eorIzy zadr => (.eor, .izy zadr)
  | .eorIzp zadr => (.eor, .izp zadr)
  | .eorZpx zadr => (.eor, .zpx zadr)
  | .lsrZpx zadr => (.lsr, .zpx zadr)
  | .rmb5 zadr => (.rmb 5, .zp zadr)
  | .eorAby addr => (.eor, .aby addr)
  | .eorAbx addr => (.eor, .abx addr)
  | .lsrAbx addr => (.lsr, .abx addr)
  | .bbr5 zadr disp => (.bbr 5, .zpr zadr disp)
  | .adcIzx zadr => (.adc, .izx zadr)
  | .stzZp zadr => (.stz, .zp zadr)
  | .adcZp zadr => (.adc, .zp zadr)
  | .rorZp zadr => (.ror, .zp zadr)
  | .rmb6 zadr => (.rmb 6, .zp zadr)
  | .adcImm v => (.adc, .imm v)
  | .jmpInd ptr => (.jmp, .ind ptr)
  | .adcAbs addr => (.adc, .abs addr)
  | .rorAbs addr => (.ror, .abs addr)
  | .bbr6 zadr disp => (.bbr 6, .zpr zadr disp)
  | .bvs disp => (.bvs, .rel disp)
  | .adcIzy zadr => (.adc, .izy zadr)
  | .adcIzp zadr => (.adc, .izp zadr)
  | .stzZpx zadr => (.stz, .zpx zadr)
  | .adcZpx zadr => (.adc, .zpx zadr)
  | .rorZpx zadr => (.ror, .zpx zadr)
  | .rmb7 zadr => (.rmb 7, .zp zadr)
  | .adcAby addr => (.adc, .aby addr)
  | .jmpIax ptr => (.jmp, .iax ptr)
  | .adcAbx addr => (.adc, .abx addr)
  | .rorAbx addr => (.ror, .abx addr)
  | .bbr7 zadr disp => (.bbr 7, .zpr zadr disp)
  | .bra disp => (.bra, .rel disp)
  | .staIzx zadr => (.sta, .izx zadr)
  | .styZp zadr => (.sty, .zp zadr)
  | .staZp zadr => (.sta, .zp zadr)
  | .stxZp zadr => (.stx, .zp zadr)
  | .smb0 zadr => (.smb 0, .zp zadr)
  | .bitImm v => (.bit, .imm v)
  | .styAbs addr => (.sty, .abs addr)
  | .staAbs addr => (.sta, .abs addr)
  | .stxAbs addr => (.stx, .abs addr)
  | .bbs0 zadr disp => (.bbs 0, .zpr zadr disp)
  | .bcc disp => (.bcc, .rel disp)
  | .staIzy zadr => (.sta, .izy zadr)
  | .staIzp zadr => (.sta, .izp zadr)
  | .styZpx zadr => (.sty, .zpx zadr)
  | .staZpx zadr => (.sta, .zpx zadr)
  | .stxZpy zadr => (.stx, .zpy zadr)
  | .smb1 zadr => (.smb 1, .zp zadr)
  | .staAby addr => (.sta, .aby addr)
  | .stzAbs addr => (.stz, .abs addr)
  | .staAbx addr => (.sta, .abx addr)
  | .stzAbx addr => (.stz, .abx addr)
  | .bbs1 zadr disp => (.bbs 1, .zpr zadr disp)
  | .ldyImm v => (.ldy, .imm v)
  | .ldaIzx zadr => (.lda, .izx zadr)
  | .ldxImm v => (.ldx, .imm v)
  | .ldyZp zadr => (.ldy, .zp zadr)
  | .ldaZp zadr => (.lda, .zp zadr)
  | .ldxZp zadr => (.ldx, .zp zadr)
  | .smb2 zadr => (.smb 2, .zp zadr)
  | .ldaImm v => (.lda, .imm v)
  | .ldyAbs addr => (.ldy, .abs addr)
  | .ldaAbs addr => (.lda, .abs addr)
  | .ldxAbs addr => (.ldx, .abs addr)
  | .bbs2 zadr disp => (.bbs 2, .zpr zadr disp)
  | .bcs disp => (.bcs, .rel disp)
  | .ldaIzy zadr => (.lda, .izy zadr)
  | .ldaIzp zadr => (.lda, .izp zadr)
  | .ldyZpx zadr => (.ldy, .zpx zadr)
  | .ldaZpx zadr => (.lda, .zpx zadr)
  | .ldxZpy zadr => (.ldx, .zpy zadr)
  | .smb3 zadr => (.smb 3, .zp zadr)
  | .ldaAby addr => (.lda, .aby addr)
  | .ldyAbx addr => (.ldy, .abx addr)
  | .ldaAbx addr => (.lda, .abx addr)
  | .ldxAby addr => (.ldx, .aby addr)
  | .bbs3 zadr disp => (.bbs 3, .zpr zadr disp)
  | .cpyImm v => (.cpy, .imm v)
  | .cmpIzx zadr => (.cmp, .izx zadr)
  | .cpyZp zadr => (.cpy, .zp zadr)
  | .cmpZp zadr => (.cmp, .zp zadr)
  | .decZp zadr => (.dec, .zp zadr)
  | .smb4 zadr => (.smb 4, .zp zadr)
  | .cmpImm v => (.cmp, .imm v)
  | .cpyAbs addr => (.cpy, .abs addr)
  | .cmpAbs addr => (.cmp, .abs addr)
  | .decAbs addr => (.dec, .abs addr)
  | .bbs4 zadr disp => (.bbs 4, .zpr zadr disp)
  | .bne disp => (.bne, .rel disp)
  | .cmpIzy zadr => (.cmp, .izy zadr)
  | .cmpIzp zadr => (.cmp, .izp zadr)
  | .cmpZpx zadr => (.cmp, .zpx zadr)
  | .decZpx zadr => (.dec, .zpx zadr)
  | .smb5 zadr => (.smb 5, .zp zadr)
  | .cmpAby addr => (.cmp, .aby addr)
  | .cmpAbx addr => (.cmp, .abx addr)
  | .decAbx addr => (.dec, .abx addr)
  | .bbs5 zadr disp => (.bbs 5, .zpr zadr disp)
  | .cpxImm v => (.cpx, .imm v)
  | .sbcIzx zadr => (.sbc, .izx zadr)
  | .cpxZp zadr => (.cpx, .zp zadr)
  | .sbcZp zadr => (.sbc, .zp zadr)
  | .incZp zadr => (.inc, .zp zadr)
  | .smb6 zadr => (.smb 6, .zp zadr)
  | .sbcImm v => (.sbc, .imm v)
  | .cpxAbs addr => (.cpx, .abs addr)
  | .sbcAbs addr => (.sbc, .abs addr)
  | .incAbs addr => (.inc, .abs addr)
  | .bbs6 zadr disp => (.bbs 6, .zpr zadr disp)
  | .beq disp => (.beq, .rel disp)
  | .sbcIzy zadr => (.sbc, .izy zadr)
  | .sbcIzp zadr => (.sbc, .izp zadr)
  | .sbcZpx zadr => (.sbc, .zpx zadr)
  | .incZpx zadr => (.inc, .zpx zadr)
  | .smb7 zadr => (.smb 7, .zp zadr)
  | .sbcAby addr => (.sbc, .aby addr)
  | .sbcAbx addr => (.sbc, .abx addr)
  | .incAbx addr => (.inc, .abx addr)
  | .bbs7 zadr disp => (.bbs 7, .zpr zadr disp)
  | .brk => (.brk, .imp)
  | .ill02 => (.ill, .imp)
  | .ill03 => (.ill, .imp)
  | .php => (.php, .imp)
  | .aslAcc => (.asl, .acc)
  | .ill0B => (.ill, .imp)
  | .ill13 => (.ill, .imp)
  | .clc => (.clc, .imp)
  | .incAcc => (.inc, .acc)
  | .ill1B => (.ill, .imp)
  | .ill22 => (.ill, .imp)
  | .ill23 => (.ill, .imp)
  | .plp => (.plp, .imp)
  | .rolAcc => (.rol, .acc)
  | .ill2B => (.ill, .imp)
  | .ill33 => (.ill, .imp)
  | .sec => (.sec, .imp)
  | .decAcc => (.dec, .acc)
  | .ill3B => (.ill, .imp)
  | .rti => (.rti, .imp)
  | .ill42 => (.ill, .imp)
  | .ill43 => (.ill, .imp)
  | .ill44 => (.ill, .imp)
  | .pha => (.pha, .imp)
  | .lsrAcc => (.lsr, .acc)
  | .ill4B => (.ill, .imp)
  | .ill53 => (.ill, .imp)
  | .ill54 => (.ill, .imp)
  | .cli => (.cli, .imp)
  | .phy => (.phy, .imp)
  | .ill5B => (.ill, .imp)
  | .ill5C => (.ill, .imp)
  | .rts => (.rts, .imp)
  | .ill62 => (.ill, .imp)
  | .ill63 => (.ill, .imp)
  | .pla => (.pla, .imp)
  | .rorAcc => (.ror, .acc)
  | .ill6B => (.ill, .imp)
  | .ill73 => (.ill, .imp)
  | .sei => (.sei, .imp)
  | .ply => (.ply, .imp)
  | .ill7B => (.ill, .imp)
  | .ill82 => (.ill, .imp)
  | .ill83 => (.ill, .imp)
  | .dey => (.dey, .imp)
  | .txa => (.txa, .imp)
  | .ill8B => (.ill, .imp)
  | .ill93 => (.ill, .imp)
  | .tya => (.tya, .imp)
  | .txs => (.txs, .imp)
  | .ill9B => (.ill, .imp)
  | .illA3 => (.ill, .imp)
  | .tay => (.tay, .imp)
  | .tax => (.tax, .imp)
  | .illAB => (.ill, .imp)
  | .illB3 => (.ill, .imp)
  | .clv => (.clv, .imp)
  | .tsx => (.tsx, .imp)
  | .illBB => (.ill, .imp)
  | .illC2 => (.ill, .imp)
  | .illC3 => (.ill, .imp)
  | .iny => (.iny, .imp)
  | .dex => (.dex, .imp)
  | .wai => (.wai, .imp)
  | .illD3 => (.ill, .imp)
  | .illD4 => (.ill, .imp)
  | .cld => (.cld, .imp)
  | .phx => (.phx, .imp)
  | .stp => (.stp, .imp)
  | .illDC => (.ill, .imp)
  | .illE2 => (.ill, .imp)
  | .illE3 => (.ill, .imp)
  | .inx => (.inx, .imp)
  | .nop => (.nop, .imp)
  | .illEB => (.ill, .imp)
  | .illF3 => (.ill, .imp)
  | .illF4 => (.ill, .imp)
  | .sed => (.sed, .imp)
  | .plx => (.plx, .imp)
  | .illFB => (.ill, .imp)
  | .illFC => (.ill, .imp)

/-- The modes each operation's rule lists under "Operands" (files 41 to 45). -/
def Operation.modes : Operation → List Mode
  | .lda => [.imm, .zp, .zpx, .abs, .abx, .aby, .izx, .izy, .izp]
  | .ldx => [.imm, .zp, .zpy, .abs, .aby]
  | .ldy => [.imm, .zp, .zpx, .abs, .abx]
  | .sta => [.zp, .zpx, .abs, .abx, .aby, .izx, .izy, .izp]
  | .stx => [.zp, .zpy, .abs]
  | .sty => [.zp, .zpx, .abs]
  | .stz => [.zp, .zpx, .abs, .abx]
  | .tax => [.imp]
  | .tay => [.imp]
  | .txa => [.imp]
  | .tya => [.imp]
  | .tsx => [.imp]
  | .txs => [.imp]
  | .adc => [.imm, .zp, .zpx, .abs, .abx, .aby, .izx, .izy, .izp]
  | .sbc => [.imm, .zp, .zpx, .abs, .abx, .aby, .izx, .izy, .izp]
  | .cmp => [.imm, .zp, .zpx, .abs, .abx, .aby, .izx, .izy, .izp]
  | .cpx => [.imm, .zp, .abs]
  | .cpy => [.imm, .zp, .abs]
  | .inc => [.acc, .zp, .zpx, .abs, .abx]
  | .dec => [.acc, .zp, .zpx, .abs, .abx]
  | .inx => [.imp]
  | .iny => [.imp]
  | .dex => [.imp]
  | .dey => [.imp]
  | .and => [.imm, .zp, .zpx, .abs, .abx, .aby, .izx, .izy, .izp]
  | .ora => [.imm, .zp, .zpx, .abs, .abx, .aby, .izx, .izy, .izp]
  | .eor => [.imm, .zp, .zpx, .abs, .abx, .aby, .izx, .izy, .izp]
  | .bit => [.imm, .zp, .zpx, .abs, .abx]
  | .asl => [.acc, .zp, .zpx, .abs, .abx]
  | .lsr => [.acc, .zp, .zpx, .abs, .abx]
  | .rol => [.acc, .zp, .zpx, .abs, .abx]
  | .ror => [.acc, .zp, .zpx, .abs, .abx]
  | .trb => [.zp, .abs]
  | .tsb => [.zp, .abs]
  | .rmb _ => [.zp]
  | .smb _ => [.zp]
  | .bcc => [.rel]
  | .bcs => [.rel]
  | .beq => [.rel]
  | .bne => [.rel]
  | .bmi => [.rel]
  | .bpl => [.rel]
  | .bvc => [.rel]
  | .bvs => [.rel]
  | .bra => [.rel]
  | .bbr _ => [.zpr]
  | .bbs _ => [.zpr]
  | .jmp => [.abs, .ind, .iax]
  | .jsr => [.abs]
  | .rts => [.imp]
  | .pha => [.imp]
  | .php => [.imp]
  | .phx => [.imp]
  | .phy => [.imp]
  | .pla => [.imp]
  | .plp => [.imp]
  | .plx => [.imp]
  | .ply => [.imp]
  | .clc => [.imp]
  | .cld => [.imp]
  | .cli => [.imp]
  | .clv => [.imp]
  | .sec => [.imp]
  | .sed => [.imp]
  | .sei => [.imp]
  | .nop => [.imp]
  | .brk => [.imp]
  | .rti => [.imp]
  | .ill => [.imp]
  | .stp => [.imp]
  | .wai => [.imp]

/-- The check: this operation has a form with this mode. -/
def formAllowed (op : Operation) (m : Mode) : Bool := op.modes.contains m

/-- An instruction is well formed when its operation and mode are a pair that the spec lists. -/
def Instr.WellFormed (i : Instr) : Bool := formAllowed i.form.1 i.form.2.mode

end Sys2Proof
end

