-- ==== Sys2Proof/Decode.lean ====
section
/-!
DEFINITION. The decoder, total on any bytes (30_encoding.md R80 to R88), and after it the encoder,
written from each rule's "Encoding" item. The two are written apart: `opcodeGrid` is the map of R84 by
rows, `Instr.opcode` lists the opcode of each instruction.
-/

namespace Sys2Proof

/-! ### The opcode map -/

/-- An entry of the map: the instruction of one opcode, given the two bytes that follow it. -/
abbrev Entry := Byte → Byte → Instr

/-- Layout F0 (R81): no operand byte. -/
def entry0 (i : Instr) : Entry := fun _ _ => i
/-- Layout F1 (R81): one operand byte. -/
def entry1 (f : Byte → Instr) : Entry := fun b1 _ => f b1
/-- Layout F2 (R81): a word, low byte first. -/
def entry2 (f : Word → Instr) : Entry := fun b1 b2 => f (mkWord b2 b1)
/-- Layout F3 (R81): a zero-page address, then a displacement. -/
def entry3 (f : Byte → Byte → Instr) : Entry := fun b1 b2 => f b1 b2

/-- Row `0x` of the map of R84. -/
def opcodeRow0 : List Entry := [
  entry0 .brk, entry1 .oraIzx, entry0 .ill02, entry0 .ill03,
  entry1 .tsbZp, entry1 .oraZp, entry1 .aslZp, entry1 .rmb0,
  entry0 .php, entry1 .oraImm, entry0 .aslAcc, entry0 .ill0B,
  entry2 .tsbAbs, entry2 .oraAbs, entry2 .aslAbs, entry3 .bbr0]

/-- Row `1x` of the map of R84. -/
def opcodeRow1 : List Entry := [
  entry1 .bpl, entry1 .oraIzy, entry1 .oraIzp, entry0 .ill13,
  entry1 .trbZp, entry1 .oraZpx, entry1 .aslZpx, entry1 .rmb1,
  entry0 .clc, entry2 .oraAby, entry0 .incAcc, entry0 .ill1B,
  entry2 .trbAbs, entry2 .oraAbx, entry2 .aslAbx, entry3 .bbr1]

/-- Row `2x` of the map of R84. -/
def opcodeRow2 : List Entry := [
  entry2 .jsr, entry1 .andIzx, entry0 .ill22, entry0 .ill23,
  entry1 .bitZp, entry1 .andZp, entry1 .rolZp, entry1 .rmb2,
  entry0 .plp, entry1 .andImm, entry0 .rolAcc, entry0 .ill2B,
  entry2 .bitAbs, entry2 .andAbs, entry2 .rolAbs, entry3 .bbr2]

/-- Row `3x` of the map of R84. -/
def opcodeRow3 : List Entry := [
  entry1 .bmi, entry1 .andIzy, entry1 .andIzp, entry0 .ill33,
  entry1 .bitZpx, entry1 .andZpx, entry1 .rolZpx, entry1 .rmb3,
  entry0 .sec, entry2 .andAby, entry0 .decAcc, entry0 .ill3B,
  entry2 .bitAbx, entry2 .andAbx, entry2 .rolAbx, entry3 .bbr3]

/-- Row `4x` of the map of R84. -/
def opcodeRow4 : List Entry := [
  entry0 .rti, entry1 .eorIzx, entry0 .ill42, entry0 .ill43,
  entry0 .ill44, entry1 .eorZp, entry1 .lsrZp, entry1 .rmb4,
  entry0 .pha, entry1 .eorImm, entry0 .lsrAcc, entry0 .ill4B,
  entry2 .jmpAbs, entry2 .eorAbs, entry2 .lsrAbs, entry3 .bbr4]

/-- Row `5x` of the map of R84. -/
def opcodeRow5 : List Entry := [
  entry1 .bvc, entry1 .eorIzy, entry1 .eorIzp, entry0 .ill53,
  entry0 .ill54, entry1 .eorZpx, entry1 .lsrZpx, entry1 .rmb5,
  entry0 .cli, entry2 .eorAby, entry0 .phy, entry0 .ill5B,
  entry0 .ill5C, entry2 .eorAbx, entry2 .lsrAbx, entry3 .bbr5]

/-- Row `6x` of the map of R84. -/
def opcodeRow6 : List Entry := [
  entry0 .rts, entry1 .adcIzx, entry0 .ill62, entry0 .ill63,
  entry1 .stzZp, entry1 .adcZp, entry1 .rorZp, entry1 .rmb6,
  entry0 .pla, entry1 .adcImm, entry0 .rorAcc, entry0 .ill6B,
  entry2 .jmpInd, entry2 .adcAbs, entry2 .rorAbs, entry3 .bbr6]

/-- Row `7x` of the map of R84. -/
def opcodeRow7 : List Entry := [
  entry1 .bvs, entry1 .adcIzy, entry1 .adcIzp, entry0 .ill73,
  entry1 .stzZpx, entry1 .adcZpx, entry1 .rorZpx, entry1 .rmb7,
  entry0 .sei, entry2 .adcAby, entry0 .ply, entry0 .ill7B,
  entry2 .jmpIax, entry2 .adcAbx, entry2 .rorAbx, entry3 .bbr7]

/-- Row `8x` of the map of R84. -/
def opcodeRow8 : List Entry := [
  entry1 .bra, entry1 .staIzx, entry0 .ill82, entry0 .ill83,
  entry1 .styZp, entry1 .staZp, entry1 .stxZp, entry1 .smb0,
  entry0 .dey, entry1 .bitImm, entry0 .txa, entry0 .ill8B,
  entry2 .styAbs, entry2 .staAbs, entry2 .stxAbs, entry3 .bbs0]

/-- Row `9x` of the map of R84. -/
def opcodeRow9 : List Entry := [
  entry1 .bcc, entry1 .staIzy, entry1 .staIzp, entry0 .ill93,
  entry1 .styZpx, entry1 .staZpx, entry1 .stxZpy, entry1 .smb1,
  entry0 .tya, entry2 .staAby, entry0 .txs, entry0 .ill9B,
  entry2 .stzAbs, entry2 .staAbx, entry2 .stzAbx, entry3 .bbs1]

/-- Row `Ax` of the map of R84. -/
def opcodeRowA : List Entry := [
  entry1 .ldyImm, entry1 .ldaIzx, entry1 .ldxImm, entry0 .illA3,
  entry1 .ldyZp, entry1 .ldaZp, entry1 .ldxZp, entry1 .smb2,
  entry0 .tay, entry1 .ldaImm, entry0 .tax, entry0 .illAB,
  entry2 .ldyAbs, entry2 .ldaAbs, entry2 .ldxAbs, entry3 .bbs2]

/-- Row `Bx` of the map of R84. -/
def opcodeRowB : List Entry := [
  entry1 .bcs, entry1 .ldaIzy, entry1 .ldaIzp, entry0 .illB3,
  entry1 .ldyZpx, entry1 .ldaZpx, entry1 .ldxZpy, entry1 .smb3,
  entry0 .clv, entry2 .ldaAby, entry0 .tsx, entry0 .illBB,
  entry2 .ldyAbx, entry2 .ldaAbx, entry2 .ldxAby, entry3 .bbs3]

/-- Row `Cx` of the map of R84. -/
def opcodeRowC : List Entry := [
  entry1 .cpyImm, entry1 .cmpIzx, entry0 .illC2, entry0 .illC3,
  entry1 .cpyZp, entry1 .cmpZp, entry1 .decZp, entry1 .smb4,
  entry0 .iny, entry1 .cmpImm, entry0 .dex, entry0 .wai,
  entry2 .cpyAbs, entry2 .cmpAbs, entry2 .decAbs, entry3 .bbs4]

/-- Row `Dx` of the map of R84. -/
def opcodeRowD : List Entry := [
  entry1 .bne, entry1 .cmpIzy, entry1 .cmpIzp, entry0 .illD3,
  entry0 .illD4, entry1 .cmpZpx, entry1 .decZpx, entry1 .smb5,
  entry0 .cld, entry2 .cmpAby, entry0 .phx, entry0 .stp,
  entry0 .illDC, entry2 .cmpAbx, entry2 .decAbx, entry3 .bbs5]

/-- Row `Ex` of the map of R84. -/
def opcodeRowE : List Entry := [
  entry1 .cpxImm, entry1 .sbcIzx, entry0 .illE2, entry0 .illE3,
  entry1 .cpxZp, entry1 .sbcZp, entry1 .incZp, entry1 .smb6,
  entry0 .inx, entry1 .sbcImm, entry0 .nop, entry0 .illEB,
  entry2 .cpxAbs, entry2 .sbcAbs, entry2 .incAbs, entry3 .bbs6]

/-- Row `Fx` of the map of R84. -/
def opcodeRowF : List Entry := [
  entry1 .beq, entry1 .sbcIzy, entry1 .sbcIzp, entry0 .illF3,
  entry0 .illF4, entry1 .sbcZpx, entry1 .incZpx, entry1 .smb7,
  entry0 .sed, entry2 .sbcAby, entry0 .plx, entry0 .illFB,
  entry0 .illFC, entry2 .sbcAbx, entry2 .incAbx, entry3 .bbs7]

/-- The map of all 256 opcode values (R84), row by row. -/
def opcodeGrid : List (List Entry) := [
  opcodeRow0, opcodeRow1, opcodeRow2, opcodeRow3, opcodeRow4, opcodeRow5, opcodeRow6, opcodeRow7,
  opcodeRow8, opcodeRow9, opcodeRowA, opcodeRowB, opcodeRowC, opcodeRowD, opcodeRowE, opcodeRowF]

/-- The instruction of an opcode and the two bytes after it, of which only the layout's are used:
row = high nibble, column = low nibble (R84). Both lookups are in range for every byte (R88). -/
def decodeOpcode (op b1 b2 : Byte) : Instr :=
  ((opcodeGrid.getD (op.toNat / 16) []).getD (op.toNat % 16) (entry0 .nop)) b1 b2

/-- The operation of an opcode. -/
def opcodeOperation (op : Byte) : Operation := (decodeOpcode op 0 0).form.1

/-- The byte layout of an opcode. -/
def opcodeLayout (op : Byte) : Layout := (decodeOpcode op 0 0).form.2.mode.layout

/-- The parameter `ILLEGAL_OPERAND_BYTES` (00_scope.md R10): its default, 0 for every illegal opcode
(D3, log 3). -/
def illegalOperandBytes (_op : Byte) : Nat := 0

/-- `operandByteCount` of an opcode's table entry (R82, R87). -/
def opcodeOperandBytes (op : Byte) : Nat :=
  if (opcodeOperation op).isIll then illegalOperandBytes op else (opcodeLayout op).byteCount

/-! ### The decoder -/

/-- Why bytes give no instruction: there are too few of them (R80). No opcode is rejected (R88). -/
inductive DecodeError where
  /-- There is no opcode byte. -/
  | noOpcode
  /-- The operand bytes of this opcode are not all there. -/
  | truncated (op : Byte)
  deriving DecidableEq, Repr

/-- The first instruction of a byte string, and the bytes after it. -/
def decode : List Byte → Except DecodeError (Instr × List Byte)
  | [] => .error .noOpcode
  | op :: rest =>
    if rest.length < opcodeOperandBytes op then .error (.truncated op)
    else .ok (decodeOpcode op (rest.getD 0 0) (rest.getD 1 0), rest.drop (opcodeOperandBytes op))

/-- The byte `k` of a number whose bits are laid out as the opcode table numbers them. -/
def tableByte (w k : Nat) : Byte := BitVec.ofNat 8 (w / 256 ^ k)

/-- The instruction the decoder reads from the `nbits` bits of `w`, the bits above them zero. -/
def decodeTableWord (nbits w : Nat) : Option Instr :=
  let v := w % 2 ^ nbits
  match decode [tableByte v 0, tableByte v 1, tableByte v 2] with
  | .ok (i, _) => some i
  | .error _ => none

/-! ### The encoder -/

/-- The opcode byte of each instruction: the "Encoding" item of its rule in files 41 to 45. -/
def Instr.opcode : Instr → Byte
  | .oraIzx _ => 0x01#8
  | .tsbZp _ => 0x04#8
  | .oraZp _ => 0x05#8
  | .aslZp _ => 0x06#8
  | .rmb0 _ => 0x07#8
  | .oraImm _ => 0x09#8
  | .tsbAbs _ => 0x0C#8
  | .oraAbs _ => 0x0D#8
  | .aslAbs _ => 0x0E#8
  | .bbr0 _ _ => 0x0F#8
  | .bpl _ => 0x10#8
  | .oraIzy _ => 0x11#8
  | .oraIzp _ => 0x12#8
  | .trbZp _ => 0x14#8
  | .oraZpx _ => 0x15#8
  | .aslZpx _ => 0x16#8
  | .rmb1 _ => 0x17#8
  | .oraAby _ => 0x19#8
  | .trbAbs _ => 0x1C#8
  | .oraAbx _ => 0x1D#8
  | .aslAbx _ => 0x1E#8
  | .bbr1 _ _ => 0x1F#8
  | .jsr _ => 0x20#8
  | .andIzx _ => 0x21#8
  | .bitZp _ => 0x24#8
  | .andZp _ => 0x25#8
  | .rolZp _ => 0x26#8
  | .rmb2 _ => 0x27#8
  | .andImm _ => 0x29#8
  | .bitAbs _ => 0x2C#8
  | .andAbs _ => 0x2D#8
  | .rolAbs _ => 0x2E#8
  | .bbr2 _ _ => 0x2F#8
  | .bmi _ => 0x30#8
  | .andIzy _ => 0x31#8
  | .andIzp _ => 0x32#8
  | .bitZpx _ => 0x34#8
  | .andZpx _ => 0x35#8
  | .rolZpx _ => 0x36#8
  | .rmb3 _ => 0x37#8
  | .andAby _ => 0x39#8
  | .bitAbx _ => 0x3C#8
  | .andAbx _ => 0x3D#8
  | .rolAbx _ => 0x3E#8
  | .bbr3 _ _ => 0x3F#8
  | .eorIzx _ => 0x41#8
  | .eorZp _ => 0x45#8
  | .lsrZp _ => 0x46#8
  | .rmb4 _ => 0x47#8
  | .eorImm _ => 0x49#8
  | .jmpAbs _ => 0x4C#8
  | .eorAbs _ => 0x4D#8
  | .lsrAbs _ => 0x4E#8
  | .bbr4 _ _ => 0x4F#8
  | .bvc _ => 0x50#8
  | .eorIzy _ => 0x51#8
  | .eorIzp _ => 0x52#8
  | .eorZpx _ => 0x55#8
  | .lsrZpx _ => 0x56#8
  | .rmb5 _ => 0x57#8
  | .eorAby _ => 0x59#8
  | .eorAbx _ => 0x5D#8
  | .lsrAbx _ => 0x5E#8
  | .bbr5 _ _ => 0x5F#8
  | .adcIzx _ => 0x61#8
  | .stzZp _ => 0x64#8
  | .adcZp _ => 0x65#8
  | .rorZp _ => 0x66#8
  | .rmb6 _ => 0x67#8
  | .adcImm _ => 0x69#8
  | .jmpInd _ => 0x6C#8
  | .adcAbs _ => 0x6D#8
  | .rorAbs _ => 0x6E#8
  | .bbr6 _ _ => 0x6F#8
  | .bvs _ => 0x70#8
  | .adcIzy _ => 0x71#8
  | .adcIzp _ => 0x72#8
  | .stzZpx _ => 0x74#8
  | .adcZpx _ => 0x75#8
  | .rorZpx _ => 0x76#8
  | .rmb7 _ => 0x77#8
  | .adcAby _ => 0x79#8
  | .jmpIax _ => 0x7C#8
  | .adcAbx _ => 0x7D#8
  | .rorAbx _ => 0x7E#8
  | .bbr7 _ _ => 0x7F#8
  | .bra _ => 0x80#8
  | .staIzx _ => 0x81#8
  | .styZp _ => 0x84#8
  | .staZp _ => 0x85#8
  | .stxZp _ => 0x86#8
  | .smb0 _ => 0x87#8
  | .bitImm _ => 0x89#8
  | .styAbs _ => 0x8C#8
  | .staAbs _ => 0x8D#8
  | .stxAbs _ => 0x8E#8
  | .bbs0 _ _ => 0x8F#8
  | .bcc _ => 0x90#8
  | .staIzy _ => 0x91#8
  | .staIzp _ => 0x92#8
  | .styZpx _ => 0x94#8
  | .staZpx _ => 0x95#8
  | .stxZpy _ => 0x96#8
  | .smb1 _ => 0x97#8
  | .staAby _ => 0x99#8
  | .stzAbs _ => 0x9C#8
  | .staAbx _ => 0x9D#8
  | .stzAbx _ => 0x9E#8
  | .bbs1 _ _ => 0x9F#8
  | .ldyImm _ => 0xA0#8
  | .ldaIzx _ => 0xA1#8
  | .ldxImm _ => 0xA2#8
  | .ldyZp _ => 0xA4#8
  | .ldaZp _ => 0xA5#8
  | .ldxZp _ => 0xA6#8
  | .smb2 _ => 0xA7#8
  | .ldaImm _ => 0xA9#8
  | .ldyAbs _ => 0xAC#8
  | .ldaAbs _ => 0xAD#8
  | .ldxAbs _ => 0xAE#8
  | .bbs2 _ _ => 0xAF#8
  | .bcs _ => 0xB0#8
  | .ldaIzy _ => 0xB1#8
  | .ldaIzp _ => 0xB2#8
  | .ldyZpx _ => 0xB4#8
  | .ldaZpx _ => 0xB5#8
  | .ldxZpy _ => 0xB6#8
  | .smb3 _ => 0xB7#8
  | .ldaAby _ => 0xB9#8
  | .ldyAbx _ => 0xBC#8
  | .ldaAbx _ => 0xBD#8
  | .ldxAby _ => 0xBE#8
  | .bbs3 _ _ => 0xBF#8
  | .cpyImm _ => 0xC0#8
  | .cmpIzx _ => 0xC1#8
  | .cpyZp _ => 0xC4#8
  | .cmpZp _ => 0xC5#8
  | .decZp _ => 0xC6#8
  | .smb4 _ => 0xC7#8
  | .cmpImm _ => 0xC9#8
  | .cpyAbs _ => 0xCC#8
  | .cmpAbs _ => 0xCD#8
  | .decAbs _ => 0xCE#8
  | .bbs4 _ _ => 0xCF#8
  | .bne _ => 0xD0#8
  | .cmpIzy _ => 0xD1#8
  | .cmpIzp _ => 0xD2#8
  | .cmpZpx _ => 0xD5#8
  | .decZpx _ => 0xD6#8
  | .smb5 _ => 0xD7#8
  | .cmpAby _ => 0xD9#8
  | .cmpAbx _ => 0xDD#8
  | .decAbx _ => 0xDE#8
  | .bbs5 _ _ => 0xDF#8
  | .cpxImm _ => 0xE0#8
  | .sbcIzx _ => 0xE1#8
  | .cpxZp _ => 0xE4#8
  | .sbcZp _ => 0xE5#8
  | .incZp _ => 0xE6#8
  | .smb6 _ => 0xE7#8
  | .sbcImm _ => 0xE9#8
  | .cpxAbs _ => 0xEC#8
  | .sbcAbs _ => 0xED#8
  | .incAbs _ => 0xEE#8
  | .bbs6 _ _ => 0xEF#8
  | .beq _ => 0xF0#8
  | .sbcIzy _ => 0xF1#8
  | .sbcIzp _ => 0xF2#8
  | .sbcZpx _ => 0xF5#8
  | .incZpx _ => 0xF6#8
  | .smb7 _ => 0xF7#8
  | .sbcAby _ => 0xF9#8
  | .sbcAbx _ => 0xFD#8
  | .incAbx _ => 0xFE#8
  | .bbs7 _ _ => 0xFF#8
  | .brk => 0x00#8
  | .ill02 => 0x02#8
  | .ill03 => 0x03#8
  | .php => 0x08#8
  | .aslAcc => 0x0A#8
  | .ill0B => 0x0B#8
  | .ill13 => 0x13#8
  | .clc => 0x18#8
  | .incAcc => 0x1A#8
  | .ill1B => 0x1B#8
  | .ill22 => 0x22#8
  | .ill23 => 0x23#8
  | .plp => 0x28#8
  | .rolAcc => 0x2A#8
  | .ill2B => 0x2B#8
  | .ill33 => 0x33#8
  | .sec => 0x38#8
  | .decAcc => 0x3A#8
  | .ill3B => 0x3B#8
  | .rti => 0x40#8
  | .ill42 => 0x42#8
  | .ill43 => 0x43#8
  | .ill44 => 0x44#8
  | .pha => 0x48#8
  | .lsrAcc => 0x4A#8
  | .ill4B => 0x4B#8
  | .ill53 => 0x53#8
  | .ill54 => 0x54#8
  | .cli => 0x58#8
  | .phy => 0x5A#8
  | .ill5B => 0x5B#8
  | .ill5C => 0x5C#8
  | .rts => 0x60#8
  | .ill62 => 0x62#8
  | .ill63 => 0x63#8
  | .pla => 0x68#8
  | .rorAcc => 0x6A#8
  | .ill6B => 0x6B#8
  | .ill73 => 0x73#8
  | .sei => 0x78#8
  | .ply => 0x7A#8
  | .ill7B => 0x7B#8
  | .ill82 => 0x82#8
  | .ill83 => 0x83#8
  | .dey => 0x88#8
  | .txa => 0x8A#8
  | .ill8B => 0x8B#8
  | .ill93 => 0x93#8
  | .tya => 0x98#8
  | .txs => 0x9A#8
  | .ill9B => 0x9B#8
  | .illA3 => 0xA3#8
  | .tay => 0xA8#8
  | .tax => 0xAA#8
  | .illAB => 0xAB#8
  | .illB3 => 0xB3#8
  | .clv => 0xB8#8
  | .tsx => 0xBA#8
  | .illBB => 0xBB#8
  | .illC2 => 0xC2#8
  | .illC3 => 0xC3#8
  | .iny => 0xC8#8
  | .dex => 0xCA#8
  | .wai => 0xCB#8
  | .illD3 => 0xD3#8
  | .illD4 => 0xD4#8
  | .cld => 0xD8#8
  | .phx => 0xDA#8
  | .stp => 0xDB#8
  | .illDC => 0xDC#8
  | .illE2 => 0xE2#8
  | .illE3 => 0xE3#8
  | .inx => 0xE8#8
  | .nop => 0xEA#8
  | .illEB => 0xEB#8
  | .illF3 => 0xF3#8
  | .illF4 => 0xF4#8
  | .sed => 0xF8#8
  | .plx => 0xFA#8
  | .illFB => 0xFB#8
  | .illFC => 0xFC#8

/-- The operand bytes in the order of R81. -/
def Operand.bytes : Operand → List Byte
  | .imp => []
  | .acc => []
  | .imm v => [v]
  | .zp zadr => [zadr]
  | .zpx zadr => [zadr]
  | .zpy zadr => [zadr]
  | .abs addr => [loByte addr, hiByte addr]
  | .abx addr => [loByte addr, hiByte addr]
  | .aby addr => [loByte addr, hiByte addr]
  | .ind ptr => [loByte ptr, hiByte ptr]
  | .izx zadr => [zadr]
  | .izy zadr => [zadr]
  | .izp zadr => [zadr]
  | .iax ptr => [loByte ptr, hiByte ptr]
  | .rel disp => [disp]
  | .zpr zadr disp => [zadr, disp]

/-- The operand bytes of an instruction; an illegal opcode has `ILLEGAL_OPERAND_BYTES` bytes that
nothing reads (45_stack_flags_system.md R238), encoded as zeros. -/
def Instr.operandBytes (i : Instr) : List Byte :=
  if i.form.1.isIll then List.replicate (illegalOperandBytes i.opcode) 0 else i.form.2.bytes

/-- The bytes of an instruction: the opcode, then its operand bytes (R80, R81). -/
def encode (i : Instr) : List Byte := i.opcode :: i.operandBytes

end Sys2Proof
end

