-- ==== Sys2Proof/Machine/Params.lean ====
section
/-!
DEFINITION. The parameters of 00_scope.md R10 that an implementation fixes, each with the default the
spec recommends (log 3), and the base cycle counts (70_reset_and_hazards.md R289). They stand here,
not in Config.lean, so that a repair may change a value. `ILLEGAL_OPERAND_BYTES` is in Decode.lean,
`DecimalAdc` and `DecimalSbc` are in Flags.lean.
-/

namespace Sys2Proof.Machine

/-- `IRQ_ENTRY_CYCLES`, default 7 (D14). Timing only. -/
def irqEntryCycles : Nat := 7

/-- `JUMP_TARGET_READ`, default false (D11). -/
def jumpTargetRead : Bool := false

/-- `BIT_IMM_WRITES_N`, default true (D33). -/
def bitImmWritesN : Bool := true

/-- `WAI_WAKES_WHEN_MASKED`, default true (D17). -/
def waiWakesWhenMasked : Bool := true

/-- `ILLEGAL_BASE_CYCLES`, default 0 (D3). Timing only. -/
def illegalBaseCycles (_op : Byte) : Nat := 0

/-- The `cycles` column of opcode_table.json, rows and columns as the map of R84; the illegal slots
hold 0 and are not read. -/
def baseCycleGrid : List (List Nat) := [
  [7, 6, 0, 0, 5, 3, 5, 5, 3, 2, 2, 0, 6, 4, 6, 5],
  [2, 5, 5, 0, 5, 4, 6, 5, 2, 4, 2, 0, 6, 4, 6, 5],
  [6, 6, 0, 0, 3, 3, 5, 5, 4, 2, 2, 0, 4, 4, 6, 5],
  [2, 5, 5, 0, 4, 4, 6, 5, 2, 4, 2, 0, 4, 4, 6, 5],
  [6, 6, 0, 0, 0, 3, 5, 5, 3, 2, 2, 0, 3, 4, 6, 5],
  [2, 5, 5, 0, 0, 4, 6, 5, 2, 4, 3, 0, 0, 4, 6, 5],
  [6, 6, 0, 0, 3, 3, 5, 5, 4, 2, 2, 0, 6, 4, 6, 5],
  [2, 5, 5, 0, 4, 4, 6, 5, 2, 4, 4, 0, 6, 4, 6, 5],
  [2, 6, 0, 0, 3, 3, 3, 5, 2, 2, 2, 0, 4, 4, 4, 5],
  [2, 6, 5, 0, 4, 4, 4, 5, 2, 5, 2, 0, 4, 5, 5, 5],
  [2, 6, 2, 0, 3, 3, 3, 5, 2, 2, 2, 0, 4, 4, 4, 5],
  [2, 5, 5, 0, 4, 4, 4, 5, 2, 4, 2, 0, 4, 4, 4, 5],
  [2, 6, 0, 0, 3, 3, 5, 5, 2, 2, 2, 3, 4, 4, 6, 5],
  [2, 5, 5, 0, 0, 4, 6, 5, 2, 4, 3, 3, 0, 4, 7, 5],
  [2, 6, 0, 0, 3, 3, 5, 5, 2, 2, 2, 0, 4, 4, 6, 5],
  [2, 5, 5, 0, 0, 4, 6, 5, 2, 4, 4, 0, 0, 4, 7, 5]]

/-- `BASE_CYCLES(op)` (R289, D15), or `ILLEGAL_BASE_CYCLES(op)` (R238). Timing only. -/
def baseCycles (op : Byte) : Nat :=
  if (opcodeOperation op).isIll then illegalBaseCycles op
  else (baseCycleGrid.getD (op.toNat / 16) []).getD (op.toNat % 16) 0

end Sys2Proof.Machine
end

