-- ==== Sys2Proof/Machine/Ops.lean ====
section
/-!
DEFINITION. The named operations over registers, the intercept table, memory and the stack, and the one
interrupt entry and its return, each written from its rule: 20_memory.md R52, R53, R55;
40_engine_and_addressing.md R125, R126; 60_exceptions.md R253, R254, R262, R263;
45_stack_flags_system.md R237.
-/

namespace Sys2Proof.Machine

/-! ### Registers -/

/-- `PC <- v` (00_scope.md R12). -/
def State.setPc (s : State) (v : Word) : State := { s with pc := v }
/-- `oldPC <- v`. -/
def State.setOldPc (s : State) (v : Word) : State := { s with oldPc := v }
/-- `A <- v`. -/
def State.setA (s : State) (v : Byte) : State := { s with a := v }
/-- `X <- v`. -/
def State.setX (s : State) (v : Byte) : State := { s with x := v }
/-- `Y <- v`. -/
def State.setY (s : State) (v : Byte) : State := { s with y := v }
/-- `SP <- v`. -/
def State.setSp (s : State) (v : Byte) : State := { s with sp := v }
/-- All six flags. -/
def State.setFlags (s : State) (f : Flags) : State := { s with flags := f }
/-- `SetNZ(v)` on the state (R122). -/
def State.setNZ (s : State) (v : Byte) : State := s.setFlags (s.flags.setNZ v)
/-- `stopped <- b` (10_state.md R33). -/
def State.setStopped (s : State) (b : Bool) : State := { s with stopped := b }
/-- `waiting <- b` (10_state.md R34). -/
def State.setWaiting (s : State) (b : Bool) : State := { s with waiting := b }
/-- The pending set (10_state.md R35). -/
def State.setPending (s : State) (p : List SourceId) : State := { s with pending := p }
/-- `cycles <- cycles + k` (R100). -/
def State.addCycles (s : State) (k : Nat) : State := { s with cycles := s.cycles + k }
/-- `cycles <- k`. -/
def State.setCycles (s : State) (k : Nat) : State := { s with cycles := k }
/-- The count the step returns (R100 stage 8, log 11). -/
def State.setReturned (s : State) (k : Nat) : State := { s with returned := k }
/-- The memory array, past every hook. -/
def State.setMem (s : State) (m : List Host.Cell) : State := { s with mem := m }
/-- The intercept table (20_memory.md R51). -/
def State.setIntercepts (s : State) (t : List (Nat × Hook)) : State := { s with intercepts := t }
/-- The count of oracle-hook calls (log 7). -/
def State.setHookCalls (s : State) (k : Nat) : State := { s with hookCalls := k }

/-- What a hook is passed as its `cpuContext` (20_memory.md R54). -/
def State.context (s : State) : CpuContext where
  pc := s.pc
  oldPc := s.oldPc
  a := s.a
  x := s.x
  y := s.y
  sp := s.sp
  n := s.flags.n
  v := s.flags.v
  d := s.flags.d
  i := s.flags.i
  z := s.flags.z
  c := s.flags.c
  stopped := s.stopped
  waiting := s.waiting
  pending := s.pending
  cycles := s.cycles
  mem := s.mem

/-! ### The intercept table (20_memory.md R51, R56) -/

/-- The hook bound at address `a`, if any. -/
def hookGet : List (Nat × Hook) → Nat → Option Hook
  | [], _ => none
  | (k, h) :: rest, a => if k = a then some h else hookGet rest a

/-- The table with `h` bound at `a`, in place of what was bound there. -/
def hookPut : List (Nat × Hook) → Nat → Hook → List (Nat × Hook)
  | [], a, h => [(a, h)]
  | (k, g) :: rest, a, h =>
    if k < a then (k, g) :: hookPut rest a h
    else if k = a then (a, h) :: rest
    else (a, h) :: (k, g) :: rest

/-- The table with nothing bound at `a`. -/
def hookErase : List (Nat × Hook) → Nat → List (Nat × Hook)
  | [], _ => []
  | (k, g) :: rest, a => if k = a then rest else (k, g) :: hookErase rest a

/-- `h` bound at the `len` addresses from `start` up (R51: "the same handler object for all addresses in the range"). -/
def hookPutRange (t : List (Nat × Hook)) (start : Nat) (h : Hook) : Nat → List (Nat × Hook)
  | 0 => t
  | n + 1 => hookPut (hookPutRange t start h n) (start + n) h

/-- Nothing bound at the `len` addresses from `start` up. -/
def hookEraseRange (t : List (Nat × Hook)) (start : Nat) : Nat → List (Nat × Hook)
  | 0 => t
  | n + 1 => hookErase (hookEraseRange t start n) (start + n)

/-- The addresses of the table rise strictly, all at least `lo` and below 65536. -/
def hooksWfFrom : Nat → List (Nat × Hook) → Bool
  | _, [] => true
  | lo, (k, _) :: rest => decide (lo ≤ k) && decide (k < 65536) && hooksWfFrom (k + 1) rest

/-- The canonical form of the intercept table. -/
def interceptsWf (t : List (Nat × Hook)) : Bool := hooksWfFrom 0 t

/-- The hook bound at a 16-bit address. -/
def State.hookAt (s : State) (a : Word) : Option Hook := hookGet s.intercepts a.toNat

/-! ### Memory (20_memory.md R52, R53, R55) -/

/-- `Memory[a]`, the array itself, no hook called. -/
def State.byteAt (s : State) (a : Word) : Byte := memGet s.mem a.toNat

/-- `Memory[a] <- v`, the array itself, no hook called. -/
def State.putByte (s : State) (a : Word) (v : Byte) : State := s.setMem (memPut s.mem a.toNat v)

/-- `MemRead(a, 1)` (R52): an intercepted read calls the hook, mirrors its byte into Memory and returns it. -/
def memRead (a : Word) (s : State) : Byte × State :=
  match s.hookAt a with
  | none => (s.byteAt a, s)
  | some .rom => (s.byteAt a, s)
  | some (.oracle id) =>
    let t := (s.setHookCalls (s.hookCalls + 1)).putByte a (Config.hookReadByte id s.hookCalls a s.context)
    (t.byteAt a, t)

/-- `MemWrite(a, 1, v)` (R55): a write that the hook handles leaves Memory untouched. -/
def memWrite (a : Word) (v : Byte) (s : State) : State :=
  match s.hookAt a with
  | none => s.putByte a v
  | some .rom => s
  | some (.oracle id) =>
    let t := s.setHookCalls (s.hookCalls + 1)
    if Config.hookWriteHandled id s.hookCalls v a s.context then t else t.putByte a v

/-- `MemRead16(a)` (R53): the low byte first, then the high byte at `a + 1`, each through its own intercept. -/
def memRead16 (a : Word) (s : State) : Word × State :=
  let l := memRead a s
  let h := memRead (a + 1#16) l.2
  (mkWord h.1 l.1, h.2)

/-! ### The stack (40_engine_and_addressing.md R125, R126) -/

/-- The address of the slot `SP` names, `0x0100 + SP` (10_state.md R26). -/
def stackSlot (sp : Byte) : Word := mkWord 0x01#8 sp

/-- `Push(v)` (R125): write at `0x0100 + SP`, then decrement `SP` modulo 256. -/
def push (v : Byte) (s : State) : State :=
  let t := memWrite (stackSlot s.sp) v s
  t.setSp (t.sp - 1#8)

/-- `Pop()` (R126): increment `SP` modulo 256, then read `0x0100 + SP`. -/
def pop (s : State) : Byte × State :=
  let t := s.setSp (s.sp + 1#8)
  memRead (stackSlot t.sp) t

/-- A 16-bit value is pushed high byte first (R127). -/
def push16 (w : Word) (s : State) : State := push (loByte w) (push (hiByte w) s)

/-- A 16-bit value is popped low byte first (R127). -/
def pop16 (s : State) : Word × State :=
  let l := pop s
  let h := pop l.2
  (mkWord h.1 l.1, h.2)

/-! ### Interrupt entry and return -/

/-- The NMI vector (60_exceptions.md R252). -/
def nmiVector : Word := 0xFFFA#16
/-- The reset vector (R252). -/
def resetVector : Word := 0xFFFC#16
/-- The IRQ and BRK vector (R252). -/
def irqVector : Word := 0xFFFE#16

/-- `Interrupt(vector, brk)` (60_exceptions.md R253), the entry shared by IRQ, NMI and BRK: push
`hi(PC)`, `lo(PC)`, `FlagsByte(brk)`, then `PC` from the vector, `D <- false`, `I <- true`. -/
def interrupt (vector : Word) (brk : Bool) (s : State) : State :=
  let p := push (flagsByte s.flags brk) (push16 s.pc s)
  let r := memRead16 vector p
  (r.2.setPc r.1).setFlags r.2.flags.enterInterrupt

/-- The return from an interrupt (45_stack_flags_system.md R237): pop the six flags, then `PC`
verbatim, low byte first. -/
def returnFromInterrupt (s : State) : State :=
  let f := pop s
  let w := pop16 (f.2.setFlags (flagsOfByte f.1))
  w.2.setPc w.1

/-- `IrqCheck()` (60_exceptions.md R254), stage 7 of every step that is not stopped. -/
def irqCheck (s : State) : State :=
  if s.pending = [] then s
  else if s.flags.i then
    if s.waiting && waiWakesWhenMasked then s.setWaiting false else s
  else ((interrupt irqVector false s).setWaiting false).addCycles irqEntryCycles

/-! ### The pending set (60_exceptions.md R262, R263); a `SourceId` is a Nat -/

/-- `interruptPending ∪ {k}`, strictly rising. -/
def insertSource : List Nat → Nat → List Nat
  | [], k => [k]
  | j :: rest, k => if j < k then j :: insertSource rest k else if j = k then j :: rest else k :: j :: rest

/-- `interruptPending \ {k}`. -/
def removeSource : List Nat → Nat → List Nat
  | [], _ => []
  | j :: rest, k => if j = k then rest else j :: removeSource rest k

/-- The sources rise strictly, all at least `lo`. -/
def sourcesWfFrom : Nat → List Nat → Bool
  | _, [] => true
  | lo, j :: rest => decide (lo ≤ j) && sourcesWfFrom (j + 1) rest

/-- The canonical form of the pending set. -/
def pendingWf (p : List Nat) : Bool := sourcesWfFrom 0 p

end Sys2Proof.Machine
end

