-- ==== Sys2Proof/Machine/Operands.lean ====
section
/-!
DEFINITION. The addressing-mode resolver (40_engine_and_addressing.md R105 to R121), the write-back
stage (R104), and the stages 4 to 6 of one instruction (R100) around an operation. At the start of
stage 4 `PC` is the address of the byte after the opcode (R101); the operand bytes themselves were
read by the fetch (Machine/Fetch.lean, log 12) and are the fields of the operand.
-/

namespace Sys2Proof.Machine

/-- What the addressing stage leaves: the state after its reads, and the scratch values `address`,
`alu` (10_state.md R36, R37) and the extra cycles. Where a mode sets no `alu`, it is 0 and nothing reads it. -/
structure Resolved where
  state : State
  address : Word
  alu : Byte
  extra : Nat
  deriving DecidableEq, Repr

/-- `LoadOperand()` at an effective address: read it unless told not to (R103, R105). -/
def operandAt (load : Bool) (address : Word) (extra : Nat) (s : State) : Resolved :=
  if load then
    let r := memRead address s
    ⟨r.2, address, r.1, extra⟩
  else ⟨s, address, 0#8, extra⟩

/-- A pointer in the zero page: low byte at `z`, high byte at `(z + 1) & 0xFF` (R116, R117, R118). -/
def zeroPagePointer (z : Byte) (s : State) : Word × State :=
  let l := memRead (zeroExt z) s
  let h := memRead (zeroExt (z + 1#8)) l.2
  (mkWord h.1 l.1, h.2)

/-- The pointer of `JMP (ptr)`: its high byte comes from offset 0 of the same page when the pointer's
low byte is 0xFF (R115, the page-wrap bug). -/
def samePagePointer (ptr : Word) (s : State) : Word × State :=
  let l := memRead ptr s
  let h := memRead (mkWord (hiByte ptr) (loByte ptr + 1#8)) l.2
  (mkWord h.1 l.1, h.2)

/-- A relative target: the next instruction's address plus the signed displacement, modulo 65536 (R120). -/
def relativeTarget (next : Word) (rel : Byte) : Word := next + signExt rel

/-- The extra cycles of a taken branch: 2 when the target's page is not the next instruction's, else 1
(R120, R210; D13). -/
def branchCost (next : Word) (rel : Byte) : Nat := 1 + pageCross next (relativeTarget next rel)

/-- The 16 addressing modes (R106 to R121). `load` says whether the mode's general operand load is
made: false for a write-only opcode (R103), `JUMP_TARGET_READ` for JMP and JSR (R112). -/
def resolve (load : Bool) (m : Operand) (s : State) : Resolved :=
  match m with
  | .imp => ⟨s, 0#16, 0#8, 0⟩
  | .acc => ⟨s, 0#16, s.a, 0⟩
  | .imm v => ⟨s, 0#16, v, 0⟩
  | .zp z => operandAt load (zeroExt z) 0 s
  | .zpx z => operandAt load (zeroExt (z + s.x)) 0 s
  | .zpy z => operandAt load (zeroExt (z + s.y)) 0 s
  | .abs addr => operandAt load addr 0 s
  | .abx addr => operandAt load (addr + zeroExt s.x) (pageCross addr (addr + zeroExt s.x)) s
  | .aby addr => operandAt load (addr + zeroExt s.y) (pageCross addr (addr + zeroExt s.y)) s
  | .ind ptr =>
    let p := samePagePointer ptr s
    operandAt load p.1 0 p.2
  | .izx z =>
    let p := zeroPagePointer (z + s.x) s
    operandAt load p.1 0 p.2
  | .izy z =>
    let p := zeroPagePointer z s
    operandAt load (p.1 + zeroExt s.y)
      (if 0x100 < (loByte p.1).toNat + s.y.toNat then 1 else 0) p.2
  | .izp z =>
    let p := zeroPagePointer z s
    operandAt load p.1 0 p.2
  | .iax ptr =>
    let p := memRead16 (ptr + zeroExt s.x) s
    operandAt load p.1 0 p.2
  | .rel d =>
    ⟨s, relativeTarget (s.pc + 1#16) d, BitVec.ofNat 8 (branchCost (s.pc + 1#16) d), 0⟩
  | .zpr z _ => operandAt true (zeroExt z) 0 s

/-- What the operation stage leaves: the state, `alu`, whether it set `wb`, and its extra cycles
(10_state.md R36, R38). -/
structure Operated where
  state : State
  alu : Byte
  wb : Bool
  extra : Nat
  deriving DecidableEq, Repr

/-- An operation (stage 5): it sees `address`, `alu` and the state, whose `PC` is the next sequential
instruction (R101). -/
abbrev Oper := Word → Byte → State → Operated

/-- An operation that asks for no write-back and no extra cycle. -/
def Operated.done (s : State) : Operated := ⟨s, 0#8, false, 0⟩

/-- An operation that sets `wb` and leaves `alu` for the write-back stage (R104). -/
def Operated.back (alu : Byte) (s : State) : Operated := ⟨s, alu, true, 0⟩

/-- `WriteBack(mode)` (R104): `alu` into `A` in mode ACC, nothing in five modes, else to `address`. -/
def writeBack (m : Mode) (address : Word) (alu : Byte) (s : State) : State :=
  match m with
  | .acc => s.setA alu
  | .imm => s
  | .imp => s
  | .rel => s
  | .zpr => s
  | .ind => s
  | .zp => memWrite address alu s
  | .zpx => memWrite address alu s
  | .zpy => memWrite address alu s
  | .abs => memWrite address alu s
  | .abx => memWrite address alu s
  | .aby => memWrite address alu s
  | .izx => memWrite address alu s
  | .izy => memWrite address alu s
  | .izp => memWrite address alu s
  | .iax => memWrite address alu s

/-- The state between stages 4 and 5: the mode's extra cycles counted, `PC` advanced by the operand
byte count (R100). -/
def Resolved.advance (r : Resolved) (count : Nat) : State :=
  (r.state.addCycles r.extra).setPc (r.state.pc + BitVec.ofNat 16 count)

/-- Stages 4, 5 and 6 of R100: address, operate, write back. `wb` is the entry's static flag
(30_encoding.md R89), `count` its operand byte count. -/
def runStages (load wb : Bool) (count : Nat) (op : Oper) (m : Operand) (s : State) : State :=
  let r := resolve load m s
  let o := op r.address r.alu (r.advance count)
  let t := o.state.addCycles o.extra
  if wb || o.wb then writeBack m.mode r.address o.alu t else t

/-- An instruction that loads its operand. -/
def runRead (op : Oper) (m : Operand) (s : State) : State :=
  runStages true false m.mode.byteCount op m s

/-- A write-only instruction (R103): static write-back, no operand load. -/
def runStore (op : Oper) (m : Operand) (s : State) : State :=
  runStages false true m.mode.byteCount op m s

/-- JMP and JSR: the byte at the target is read only under `JUMP_TARGET_READ` (R112, R115, R119). -/
def runJump (op : Oper) (m : Operand) (s : State) : State :=
  runStages jumpTargetRead false m.mode.byteCount op m s

end Sys2Proof.Machine
end

