-- ==== Sys2Proof/Machine/Arithmetic.lean ====
section
/-!
DEFINITION. Add, subtract, compare, increment, decrement (42_arithmetic.md R160 to R172). The
arithmetic itself is in Machine/Flags.lean.
-/

namespace Sys2Proof.Machine

/-- ADC: decimal when `D` is set, else binary (R160, R161). -/
def opAdc : Oper := fun _ alu s =>
  let r := if s.flags.d then decimalAdc s.a alu s.flags.c else binaryAdc s.a alu s.flags.c
  .done ((s.setA r.a).setFlags (s.flags.setArith r))

/-- SBC: decimal when `D` is set, else binary (R162, R163). -/
def opSbc : Oper := fun _ alu s =>
  let r := if s.flags.d then decimalSbc s.a alu s.flags.c else binarySbc s.a alu s.flags.c
  .done ((s.setA r.a).setFlags (s.flags.setArith r))

/-- CMP: the flags of `A - M` (R164). -/
def opCmp : Oper := fun _ alu s => .done (s.setFlags (s.flags.setCompare s.a alu))

/-- CPX: the flags of `X - M` (R165). -/
def opCpx : Oper := fun _ alu s => .done (s.setFlags (s.flags.setCompare s.x alu))

/-- CPY: the flags of `Y - M` (R166). -/
def opCpy : Oper := fun _ alu s => .done (s.setFlags (s.flags.setCompare s.y alu))

/-- INC: `alu <- (alu + 1) & 0xFF; SetNZ(alu); wb <- true` (R167). -/
def opInc : Oper := fun _ alu s => .back (alu + 1#8) (s.setNZ (alu + 1#8))

/-- DEC: `alu <- (alu - 1) & 0xFF; SetNZ(alu); wb <- true` (R168). -/
def opDec : Oper := fun _ alu s => .back (alu - 1#8) (s.setNZ (alu - 1#8))

/-- INX: `X <- (X + 1) & 0xFF; SetNZ(X)` (R169). -/
def opInx : Oper := fun _ _ s => .done ((s.setX (s.x + 1#8)).setNZ (s.x + 1#8))

/-- INY: `Y <- (Y + 1) & 0xFF; SetNZ(Y)` (R170). -/
def opIny : Oper := fun _ _ s => .done ((s.setY (s.y + 1#8)).setNZ (s.y + 1#8))

/-- DEX: `X <- (X - 1) & 0xFF; SetNZ(X)` (R171). -/
def opDex : Oper := fun _ _ s => .done ((s.setX (s.x - 1#8)).setNZ (s.x - 1#8))

/-- DEY: `Y <- (Y - 1) & 0xFF; SetNZ(Y)` (R172). -/
def opDey : Oper := fun _ _ s => .done ((s.setY (s.y - 1#8)).setNZ (s.y - 1#8))

/-! ### The meanings, one per table row -/

/-- `61` ADC (zadr,X): R160 through R116. -/
def execAdcIzx (zadr : Byte) (s : State) : Result := .next (runRead opAdc (.izx zadr) s)
/-- `65` ADC zadr: R160 through R109. -/
def execAdcZp (zadr : Byte) (s : State) : Result := .next (runRead opAdc (.zp zadr) s)
/-- `69` ADC #v: R160 through R108. -/
def execAdcImm (v : Byte) (s : State) : Result := .next (runRead opAdc (.imm v) s)
/-- `6D` ADC addr: R160 through R112. -/
def execAdcAbs (addr : Word) (s : State) : Result := .next (runRead opAdc (.abs addr) s)
/-- `71` ADC (zadr),Y: R160 through R117. -/
def execAdcIzy (zadr : Byte) (s : State) : Result := .next (runRead opAdc (.izy zadr) s)
/-- `72` ADC (zadr): R160 through R118. -/
def execAdcIzp (zadr : Byte) (s : State) : Result := .next (runRead opAdc (.izp zadr) s)
/-- `75` ADC zadr,X: R160 through R110. -/
def execAdcZpx (zadr : Byte) (s : State) : Result := .next (runRead opAdc (.zpx zadr) s)
/-- `79` ADC addr,Y: R160 through R114. -/
def execAdcAby (addr : Word) (s : State) : Result := .next (runRead opAdc (.aby addr) s)
/-- `7D` ADC addr,X: R160 through R113. -/
def execAdcAbx (addr : Word) (s : State) : Result := .next (runRead opAdc (.abx addr) s)

/-- `E1` SBC (zadr,X): R162 through R116. -/
def execSbcIzx (zadr : Byte) (s : State) : Result := .next (runRead opSbc (.izx zadr) s)
/-- `E5` SBC zadr: R162 through R109. -/
def execSbcZp (zadr : Byte) (s : State) : Result := .next (runRead opSbc (.zp zadr) s)
/-- `E9` SBC #v: R162 through R108. -/
def execSbcImm (v : Byte) (s : State) : Result := .next (runRead opSbc (.imm v) s)
/-- `ED` SBC addr: R162 through R112. -/
def execSbcAbs (addr : Word) (s : State) : Result := .next (runRead opSbc (.abs addr) s)
/-- `F1` SBC (zadr),Y: R162 through R117. -/
def execSbcIzy (zadr : Byte) (s : State) : Result := .next (runRead opSbc (.izy zadr) s)
/-- `F2` SBC (zadr): R162 through R118. -/
def execSbcIzp (zadr : Byte) (s : State) : Result := .next (runRead opSbc (.izp zadr) s)
/-- `F5` SBC zadr,X: R162 through R110. -/
def execSbcZpx (zadr : Byte) (s : State) : Result := .next (runRead opSbc (.zpx zadr) s)
/-- `F9` SBC addr,Y: R162 through R114. -/
def execSbcAby (addr : Word) (s : State) : Result := .next (runRead opSbc (.aby addr) s)
/-- `FD` SBC addr,X: R162 through R113. -/
def execSbcAbx (addr : Word) (s : State) : Result := .next (runRead opSbc (.abx addr) s)

/-- `C1` CMP (zadr,X): R164 through R116. -/
def execCmpIzx (zadr : Byte) (s : State) : Result := .next (runRead opCmp (.izx zadr) s)
/-- `C5` CMP zadr: R164 through R109. -/
def execCmpZp (zadr : Byte) (s : State) : Result := .next (runRead opCmp (.zp zadr) s)
/-- `C9` CMP #v: R164 through R108. -/
def execCmpImm (v : Byte) (s : State) : Result := .next (runRead opCmp (.imm v) s)
/-- `CD` CMP addr: R164 through R112. -/
def execCmpAbs (addr : Word) (s : State) : Result := .next (runRead opCmp (.abs addr) s)
/-- `D1` CMP (zadr),Y: R164 through R117. -/
def execCmpIzy (zadr : Byte) (s : State) : Result := .next (runRead opCmp (.izy zadr) s)
/-- `D2` CMP (zadr): R164 through R118. -/
def execCmpIzp (zadr : Byte) (s : State) : Result := .next (runRead opCmp (.izp zadr) s)
/-- `D5` CMP zadr,X: R164 through R110. -/
def execCmpZpx (zadr : Byte) (s : State) : Result := .next (runRead opCmp (.zpx zadr) s)
/-- `D9` CMP addr,Y: R164 through R114. -/
def execCmpAby (addr : Word) (s : State) : Result := .next (runRead opCmp (.aby addr) s)
/-- `DD` CMP addr,X: R164 through R113. -/
def execCmpAbx (addr : Word) (s : State) : Result := .next (runRead opCmp (.abx addr) s)

/-- `E0` CPX #v: R165 through R108. -/
def execCpxImm (v : Byte) (s : State) : Result := .next (runRead opCpx (.imm v) s)
/-- `E4` CPX zadr: R165 through R109. -/
def execCpxZp (zadr : Byte) (s : State) : Result := .next (runRead opCpx (.zp zadr) s)
/-- `EC` CPX addr: R165 through R112. -/
def execCpxAbs (addr : Word) (s : State) : Result := .next (runRead opCpx (.abs addr) s)

/-- `C0` CPY #v: R166 through R108. -/
def execCpyImm (v : Byte) (s : State) : Result := .next (runRead opCpy (.imm v) s)
/-- `C4` CPY zadr: R166 through R109. -/
def execCpyZp (zadr : Byte) (s : State) : Result := .next (runRead opCpy (.zp zadr) s)
/-- `CC` CPY addr: R166 through R112. -/
def execCpyAbs (addr : Word) (s : State) : Result := .next (runRead opCpy (.abs addr) s)

/-- `1A` INC A: R167 through R107. -/
def execIncAcc (s : State) : Result := .next (runRead opInc .acc s)
/-- `E6` INC zadr: R167 through R109. -/
def execIncZp (zadr : Byte) (s : State) : Result := .next (runRead opInc (.zp zadr) s)
/-- `EE` INC addr: R167 through R112. -/
def execIncAbs (addr : Word) (s : State) : Result := .next (runRead opInc (.abs addr) s)
/-- `F6` INC zadr,X: R167 through R110. -/
def execIncZpx (zadr : Byte) (s : State) : Result := .next (runRead opInc (.zpx zadr) s)
/-- `FE` INC addr,X: R167 through R113. -/
def execIncAbx (addr : Word) (s : State) : Result := .next (runRead opInc (.abx addr) s)

/-- `3A` DEC A: R168 through R107. -/
def execDecAcc (s : State) : Result := .next (runRead opDec .acc s)
/-- `C6` DEC zadr: R168 through R109. -/
def execDecZp (zadr : Byte) (s : State) : Result := .next (runRead opDec (.zp zadr) s)
/-- `CE` DEC addr: R168 through R112. -/
def execDecAbs (addr : Word) (s : State) : Result := .next (runRead opDec (.abs addr) s)
/-- `D6` DEC zadr,X: R168 through R110. -/
def execDecZpx (zadr : Byte) (s : State) : Result := .next (runRead opDec (.zpx zadr) s)
/-- `DE` DEC addr,X: R168 through R113. -/
def execDecAbx (addr : Word) (s : State) : Result := .next (runRead opDec (.abx addr) s)

/-- `E8` INX: R169 through R106. -/
def execInx (s : State) : Result := .next (runRead opInx .imp s)

/-- `C8` INY: R170 through R106. -/
def execIny (s : State) : Result := .next (runRead opIny .imp s)

/-- `CA` DEX: R171 through R106. -/
def execDex (s : State) : Result := .next (runRead opDex .imp s)

/-- `88` DEY: R172 through R106. -/
def execDey (s : State) : Result := .next (runRead opDey .imp s)

end Sys2Proof.Machine
end

