-- ==== Sys2Proof/Machine/BranchJump.lean ====
section
/-!
DEFINITION. Relative branches, bit branches, jumps and subroutines (44_branch_jump.md R200 to R214).
-/

namespace Sys2Proof.Machine

/-- `Branch(cond)` (R200): when taken, `PC <- address` and `alu` (1 or 2) extra cycles. -/
def branch (cond : Bool) (address : Word) (alu : Byte) (s : State) : Operated :=
  if cond then ⟨s.setPc address, 0#8, false, alu.toNat⟩ else .done s

/-- BCC (R201). -/
def opBcc : Oper := fun address alu s => branch (!s.flags.c) address alu s
/-- BCS (R202). -/
def opBcs : Oper := fun address alu s => branch s.flags.c address alu s
/-- BEQ (R203). -/
def opBeq : Oper := fun address alu s => branch s.flags.z address alu s
/-- BNE (R204). -/
def opBne : Oper := fun address alu s => branch (!s.flags.z) address alu s
/-- BMI (R205). -/
def opBmi : Oper := fun address alu s => branch s.flags.n address alu s
/-- BPL (R206). -/
def opBpl : Oper := fun address alu s => branch (!s.flags.n) address alu s
/-- BVC (R207). -/
def opBvc : Oper := fun address alu s => branch (!s.flags.v) address alu s
/-- BVS (R208). -/
def opBvs : Oper := fun address alu s => branch s.flags.v address alu s
/-- BRA (R209). -/
def opBra : Oper := fun address alu s => branch true address alu s

/-- The common operation of BBRn and BBSn (R210, R211): the displacement byte at `PC - 1` is read,
taken or not; the branch is taken when the bit equals `want`. In a step that read gives `rel`, the
displacement the instruction was decoded with (log 12). -/
def bitBranch (want : Bool) (n : Nat) (rel : Byte) (alu : Byte) (s : State) : Operated :=
  let t := (memRead (s.pc - 1#16) s).2
  if bitAt alu n = want then
    ⟨t.setPc (relativeTarget s.pc rel), 0#8, false, branchCost s.pc rel⟩
  else .done t

/-- BBRn: taken when bit `n` is 0 (R210). -/
def opBbr (n : Nat) (rel : Byte) : Oper := fun _ alu s => bitBranch false n rel alu s

/-- BBSn: taken when bit `n` is 1 (R211). -/
def opBbs (n : Nat) (rel : Byte) : Oper := fun _ alu s => bitBranch true n rel alu s

/-- JMP: `PC <- address` (R212). -/
def opJmp : Oper := fun address _ s => .done (s.setPc address)

/-- JSR: push `PC - 1`, the address of its own last byte, high byte first; `PC <- address` (R213). -/
def opJsr : Oper := fun address _ s => .done ((push16 (s.pc - 1#16) s).setPc address)

/-- RTS: pop low, pop high, `PC <- {hi, lo} + 1` (R214). -/
def opRts : Oper := fun _ _ s =>
  let w := pop16 s
  .done (w.2.setPc (w.1 + 1#16))

/-! ### The meanings, one per table row -/

/-- `90` BCC disp: R201 through R120. -/
def execBcc (disp : Byte) (s : State) : Result := .next (runRead opBcc (.rel disp) s)

/-- `B0` BCS disp: R202 through R120. -/
def execBcs (disp : Byte) (s : State) : Result := .next (runRead opBcs (.rel disp) s)

/-- `F0` BEQ disp: R203 through R120. -/
def execBeq (disp : Byte) (s : State) : Result := .next (runRead opBeq (.rel disp) s)

/-- `D0` BNE disp: R204 through R120. -/
def execBne (disp : Byte) (s : State) : Result := .next (runRead opBne (.rel disp) s)

/-- `30` BMI disp: R205 through R120. -/
def execBmi (disp : Byte) (s : State) : Result := .next (runRead opBmi (.rel disp) s)

/-- `10` BPL disp: R206 through R120. -/
def execBpl (disp : Byte) (s : State) : Result := .next (runRead opBpl (.rel disp) s)

/-- `50` BVC disp: R207 through R120. -/
def execBvc (disp : Byte) (s : State) : Result := .next (runRead opBvc (.rel disp) s)

/-- `70` BVS disp: R208 through R120. -/
def execBvs (disp : Byte) (s : State) : Result := .next (runRead opBvs (.rel disp) s)

/-- `80` BRA disp: R209 through R120. -/
def execBra (disp : Byte) (s : State) : Result := .next (runRead opBra (.rel disp) s)

/-- `0F` BBR0 zadr,disp: R210 through R121. -/
def execBbr0 (zadr disp : Byte) (s : State) : Result := .next (runRead (opBbr 0 disp) (.zpr zadr disp) s)
/-- `1F` BBR1 zadr,disp: R210 through R121. -/
def execBbr1 (zadr disp : Byte) (s : State) : Result := .next (runRead (opBbr 1 disp) (.zpr zadr disp) s)
/-- `2F` BBR2 zadr,disp: R210 through R121. -/
def execBbr2 (zadr disp : Byte) (s : State) : Result := .next (runRead (opBbr 2 disp) (.zpr zadr disp) s)
/-- `3F` BBR3 zadr,disp: R210 through R121. -/
def execBbr3 (zadr disp : Byte) (s : State) : Result := .next (runRead (opBbr 3 disp) (.zpr zadr disp) s)
/-- `4F` BBR4 zadr,disp: R210 through R121. -/
def execBbr4 (zadr disp : Byte) (s : State) : Result := .next (runRead (opBbr 4 disp) (.zpr zadr disp) s)
/-- `5F` BBR5 zadr,disp: R210 through R121. -/
def execBbr5 (zadr disp : Byte) (s : State) : Result := .next (runRead (opBbr 5 disp) (.zpr zadr disp) s)
/-- `6F` BBR6 zadr,disp: R210 through R121. -/
def execBbr6 (zadr disp : Byte) (s : State) : Result := .next (runRead (opBbr 6 disp) (.zpr zadr disp) s)
/-- `7F` BBR7 zadr,disp: R210 through R121. -/
def execBbr7 (zadr disp : Byte) (s : State) : Result := .next (runRead (opBbr 7 disp) (.zpr zadr disp) s)

/-- `8F` BBS0 zadr,disp: R211 through R121. -/
def execBbs0 (zadr disp : Byte) (s : State) : Result := .next (runRead (opBbs 0 disp) (.zpr zadr disp) s)
/-- `9F` BBS1 zadr,disp: R211 through R121. -/
def execBbs1 (zadr disp : Byte) (s : State) : Result := .next (runRead (opBbs 1 disp) (.zpr zadr disp) s)
/-- `AF` BBS2 zadr,disp: R211 through R121. -/
def execBbs2 (zadr disp : Byte) (s : State) : Result := .next (runRead (opBbs 2 disp) (.zpr zadr disp) s)
/-- `BF` BBS3 zadr,disp: R211 through R121. -/
def execBbs3 (zadr disp : Byte) (s : State) : Result := .next (runRead (opBbs 3 disp) (.zpr zadr disp) s)
/-- `CF` BBS4 zadr,disp: R211 through R121. -/
def execBbs4 (zadr disp : Byte) (s : State) : Result := .next (runRead (opBbs 4 disp) (.zpr zadr disp) s)
/-- `DF` BBS5 zadr,disp: R211 through R121. -/
def execBbs5 (zadr disp : Byte) (s : State) : Result := .next (runRead (opBbs 5 disp) (.zpr zadr disp) s)
/-- `EF` BBS6 zadr,disp: R211 through R121. -/
def execBbs6 (zadr disp : Byte) (s : State) : Result := .next (runRead (opBbs 6 disp) (.zpr zadr disp) s)
/-- `FF` BBS7 zadr,disp: R211 through R121. -/
def execBbs7 (zadr disp : Byte) (s : State) : Result := .next (runRead (opBbs 7 disp) (.zpr zadr disp) s)

/-- `4C` JMP addr: R212 through R112. -/
def execJmpAbs (addr : Word) (s : State) : Result := .next (runJump opJmp (.abs addr) s)
/-- `6C` JMP (ptr): R212 through R115. -/
def execJmpInd (ptr : Word) (s : State) : Result := .next (runJump opJmp (.ind ptr) s)
/-- `7C` JMP (ptr,X): R212 through R119. -/
def execJmpIax (ptr : Word) (s : State) : Result := .next (runJump opJmp (.iax ptr) s)

/-- `20` JSR addr: R213 through R112. -/
def execJsr (addr : Word) (s : State) : Result := .next (runJump opJsr (.abs addr) s)

/-- `60` RTS: R214 through R106. -/
def execRts (s : State) : Result := .next (runRead opRts .imp s)

end Sys2Proof.Machine
end

