-- ==== Sys2Proof/Machine/LoadStore.lean ====
section
/-!
DEFINITION. Loads, stores and register transfers (41_load_store_transfer.md R140 to R152). The
operation bodies are the spec's decision D31 (log 15).
-/

namespace Sys2Proof.Machine

/-- LDA: `A <- alu; SetNZ(A)` (R140). -/
def opLda : Oper := fun _ alu s => .done ((s.setA alu).setNZ alu)

/-- LDX: `X <- alu; SetNZ(X)` (R141). -/
def opLdx : Oper := fun _ alu s => .done ((s.setX alu).setNZ alu)

/-- LDY: `Y <- alu; SetNZ(Y)` (R142). -/
def opLdy : Oper := fun _ alu s => .done ((s.setY alu).setNZ alu)

/-- STA: `alu <- A` (R143), written back by the static flag. -/
def opSta : Oper := fun _ _ s => .back s.a s

/-- STX: `alu <- X` (R144). -/
def opStx : Oper := fun _ _ s => .back s.x s

/-- STY: `alu <- Y` (R145). -/
def opSty : Oper := fun _ _ s => .back s.y s

/-- STZ: `alu <- 0` (R146). -/
def opStz : Oper := fun _ _ s => .back 0#8 s

/-- TAX: `X <- A; SetNZ(X)` (R147). -/
def opTax : Oper := fun _ _ s => .done ((s.setX s.a).setNZ s.a)

/-- TAY: `Y <- A; SetNZ(Y)` (R148). -/
def opTay : Oper := fun _ _ s => .done ((s.setY s.a).setNZ s.a)

/-- TXA: `A <- X; SetNZ(A)` (R149). -/
def opTxa : Oper := fun _ _ s => .done ((s.setA s.x).setNZ s.x)

/-- TYA: `A <- Y; SetNZ(A)` (R150). -/
def opTya : Oper := fun _ _ s => .done ((s.setA s.y).setNZ s.y)

/-- TSX: `X <- SP; SetNZ(X)` (R151). -/
def opTsx : Oper := fun _ _ s => .done ((s.setX s.sp).setNZ s.sp)

/-- TXS: `SP <- X`, no flag (R152). -/
def opTxs : Oper := fun _ _ s => .done (s.setSp s.x)

/-! ### The meanings, one per table row -/

/-- `A1` LDA (zadr,X): R140 through R116. -/
def execLdaIzx (zadr : Byte) (s : State) : Result := .next (runRead opLda (.izx zadr) s)
/-- `A5` LDA zadr: R140 through R109. -/
def execLdaZp (zadr : Byte) (s : State) : Result := .next (runRead opLda (.zp zadr) s)
/-- `A9` LDA #v: R140 through R108. -/
def execLdaImm (v : Byte) (s : State) : Result := .next (runRead opLda (.imm v) s)
/-- `AD` LDA addr: R140 through R112. -/
def execLdaAbs (addr : Word) (s : State) : Result := .next (runRead opLda (.abs addr) s)
/-- `B1` LDA (zadr),Y: R140 through R117. -/
def execLdaIzy (zadr : Byte) (s : State) : Result := .next (runRead opLda (.izy zadr) s)
/-- `B2` LDA (zadr): R140 through R118. -/
def execLdaIzp (zadr : Byte) (s : State) : Result := .next (runRead opLda (.izp zadr) s)
/-- `B5` LDA zadr,X: R140 through R110. -/
def execLdaZpx (zadr : Byte) (s : State) : Result := .next (runRead opLda (.zpx zadr) s)
/-- `B9` LDA addr,Y: R140 through R114. -/
def execLdaAby (addr : Word) (s : State) : Result := .next (runRead opLda (.aby addr) s)
/-- `BD` LDA addr,X: R140 through R113. -/
def execLdaAbx (addr : Word) (s : State) : Result := .next (runRead opLda (.abx addr) s)

/-- `A2` LDX #v: R141 through R108. -/
def execLdxImm (v : Byte) (s : State) : Result := .next (runRead opLdx (.imm v) s)
/-- `A6` LDX zadr: R141 through R109. -/
def execLdxZp (zadr : Byte) (s : State) : Result := .next (runRead opLdx (.zp zadr) s)
/-- `AE` LDX addr: R141 through R112. -/
def execLdxAbs (addr : Word) (s : State) : Result := .next (runRead opLdx (.abs addr) s)
/-- `B6` LDX zadr,Y: R141 through R111. -/
def execLdxZpy (zadr : Byte) (s : State) : Result := .next (runRead opLdx (.zpy zadr) s)
/-- `BE` LDX addr,Y: R141 through R114. -/
def execLdxAby (addr : Word) (s : State) : Result := .next (runRead opLdx (.aby addr) s)

/-- `A0` LDY #v: R142 through R108. -/
def execLdyImm (v : Byte) (s : State) : Result := .next (runRead opLdy (.imm v) s)
/-- `A4` LDY zadr: R142 through R109. -/
def execLdyZp (zadr : Byte) (s : State) : Result := .next (runRead opLdy (.zp zadr) s)
/-- `AC` LDY addr: R142 through R112. -/
def execLdyAbs (addr : Word) (s : State) : Result := .next (runRead opLdy (.abs addr) s)
/-- `B4` LDY zadr,X: R142 through R110. -/
def execLdyZpx (zadr : Byte) (s : State) : Result := .next (runRead opLdy (.zpx zadr) s)
/-- `BC` LDY addr,X: R142 through R113. -/
def execLdyAbx (addr : Word) (s : State) : Result := .next (runRead opLdy (.abx addr) s)

/-- `81` STA (zadr,X): R143 through R116. -/
def execStaIzx (zadr : Byte) (s : State) : Result := .next (runStore opSta (.izx zadr) s)
/-- `85` STA zadr: R143 through R109. -/
def execStaZp (zadr : Byte) (s : State) : Result := .next (runStore opSta (.zp zadr) s)
/-- `8D` STA addr: R143 through R112. -/
def execStaAbs (addr : Word) (s : State) : Result := .next (runStore opSta (.abs addr) s)
/-- `91` STA (zadr),Y: R143 through R117. -/
def execStaIzy (zadr : Byte) (s : State) : Result := .next (runStore opSta (.izy zadr) s)
/-- `92` STA (zadr): R143 through R118. -/
def execStaIzp (zadr : Byte) (s : State) : Result := .next (runStore opSta (.izp zadr) s)
/-- `95` STA zadr,X: R143 through R110. -/
def execStaZpx (zadr : Byte) (s : State) : Result := .next (runStore opSta (.zpx zadr) s)
/-- `99` STA addr,Y: R143 through R114. -/
def execStaAby (addr : Word) (s : State) : Result := .next (runStore opSta (.aby addr) s)
/-- `9D` STA addr,X: R143 through R113. -/
def execStaAbx (addr : Word) (s : State) : Result := .next (runStore opSta (.abx addr) s)

/-- `86` STX zadr: R144 through R109. -/
def execStxZp (zadr : Byte) (s : State) : Result := .next (runStore opStx (.zp zadr) s)
/-- `8E` STX addr: R144 through R112. -/
def execStxAbs (addr : Word) (s : State) : Result := .next (runStore opStx (.abs addr) s)
/-- `96` STX zadr,Y: R144 through R111. -/
def execStxZpy (zadr : Byte) (s : State) : Result := .next (runStore opStx (.zpy zadr) s)

/-- `84` STY zadr: R145 through R109. -/
def execStyZp (zadr : Byte) (s : State) : Result := .next (runStore opSty (.zp zadr) s)
/-- `8C` STY addr: R145 through R112. -/
def execStyAbs (addr : Word) (s : State) : Result := .next (runStore opSty (.abs addr) s)
/-- `94` STY zadr,X: R145 through R110. -/
def execStyZpx (zadr : Byte) (s : State) : Result := .next (runStore opSty (.zpx zadr) s)

/-- `64` STZ zadr: R146 through R109. -/
def execStzZp (zadr : Byte) (s : State) : Result := .next (runStore opStz (.zp zadr) s)
/-- `74` STZ zadr,X: R146 through R110. -/
def execStzZpx (zadr : Byte) (s : State) : Result := .next (runStore opStz (.zpx zadr) s)
/-- `9C` STZ addr: R146 through R112. -/
def execStzAbs (addr : Word) (s : State) : Result := .next (runStore opStz (.abs addr) s)
/-- `9E` STZ addr,X: R146 through R113. -/
def execStzAbx (addr : Word) (s : State) : Result := .next (runStore opStz (.abx addr) s)

/-- `AA` TAX: R147 through R106. -/
def execTax (s : State) : Result := .next (runRead opTax .imp s)

/-- `A8` TAY: R148 through R106. -/
def execTay (s : State) : Result := .next (runRead opTay .imp s)

/-- `8A` TXA: R149 through R106. -/
def execTxa (s : State) : Result := .next (runRead opTxa .imp s)

/-- `98` TYA: R150 through R106. -/
def execTya (s : State) : Result := .next (runRead opTya .imp s)

/-- `BA` TSX: R151 through R106. -/
def execTsx (s : State) : Result := .next (runRead opTsx .imp s)

/-- `9A` TXS: R152 through R106. -/
def execTxs (s : State) : Result := .next (runRead opTxs .imp s)

end Sys2Proof.Machine
end

