-- ==== Sys2Proof/Machine/LogicShiftBit.lean ====
section
/-!
DEFINITION. Logic, bit test, shifts and rotates, test-and-set, and the Rockwell bit operations
(43_logic_shift_bit.md R180 to R191).
-/

namespace Sys2Proof.Machine

/-- AND: `A <- A & alu; SetNZ(A)` (R180). -/
def opAnd : Oper := fun _ alu s => .done ((s.setA (s.a &&& alu)).setNZ (s.a &&& alu))

/-- ORA: `A <- A | alu; SetNZ(A)` (R181). -/
def opOra : Oper := fun _ alu s => .done ((s.setA (s.a ||| alu)).setNZ (s.a ||| alu))

/-- EOR: `A <- A ^ alu; SetNZ(A)` (R182). -/
def opEor : Oper := fun _ alu s => .done ((s.setA (s.a ^^^ alu)).setNZ (s.a ^^^ alu))

/-- BIT in its memory forms: `Z` from `A & M`, `N` and `V` from bits 7 and 6 of `M` (R183). -/
def opBit : Oper := fun _ alu s =>
  .done (s.setFlags { s.flags.setTest s.a alu with n := bitAt alu 7, v := bitAt alu 6 })

/-- `BIT #`: `Z`, and `N` under `BIT_IMM_WRITES_N`; `V` unchanged (R183, 90_conflicts.md C5). -/
def opBitImm : Oper := fun _ alu s =>
  .done (s.setFlags
    { s.flags.setTest s.a alu with n := if bitImmWritesN then bitAt alu 7 else s.flags.n })

/-- ASL: `C <- alu[7]; alu <- (alu << 1) & 0xFF; SetNZ(alu); wb <- true` (R184). -/
def opAsl : Oper := fun _ alu s =>
  .back (alu <<< 1) (s.setFlags (s.flags.setShift (alu <<< 1) (bitAt alu 7)))

/-- LSR: `C <- alu[0]; alu <- alu >> 1; SetNZ(alu); wb <- true` (R185). -/
def opLsr : Oper := fun _ alu s =>
  .back (alu >>> 1) (s.setFlags (s.flags.setShift (alu >>> 1) (bitAt alu 0)))

/-- The byte of a rotate left: the old carry enters at bit 0 (R186). -/
def rolByte (alu : Byte) (c : Bool) : Byte := (alu <<< 1) ||| (if c then 0x01#8 else 0x00#8)

/-- The byte of a rotate right: the old carry enters at bit 7 (R187). -/
def rorByte (alu : Byte) (c : Bool) : Byte := (alu >>> 1) ||| (if c then 0x80#8 else 0x00#8)

/-- ROL: a 9-bit rotation of `{C, alu}` to the left (R186). -/
def opRol : Oper := fun _ alu s =>
  let r := rolByte alu s.flags.c
  .back r (s.setFlags (s.flags.setShift r (bitAt alu 7)))

/-- ROR: a 9-bit rotation of `{C, alu}` to the right (R187). -/
def opRor : Oper := fun _ alu s =>
  let r := rorByte alu s.flags.c
  .back r (s.setFlags (s.flags.setShift r (bitAt alu 0)))

/-- TRB: `Z <- ((A & alu) = 0); alu <- alu & ~A; wb <- true` (R188). -/
def opTrb : Oper := fun _ alu s => .back (alu &&& ~~~s.a) (s.setFlags (s.flags.setTest s.a alu))

/-- TSB: `Z <- ((A & alu) = 0); alu <- alu | A; wb <- true` (R189). -/
def opTsb : Oper := fun _ alu s => .back (alu ||| s.a) (s.setFlags (s.flags.setTest s.a alu))

/-- RMBn: `alu <- alu & ~(1 << n); wb <- true`, no flag (R190). -/
def opRmb (n : Nat) : Oper := fun _ alu s => .back (alu &&& ~~~bitMask n) s

/-- SMBn: `alu <- alu | (1 << n); wb <- true`, no flag (R191). -/
def opSmb (n : Nat) : Oper := fun _ alu s => .back (alu ||| bitMask n) s

/-! ### The meanings, one per table row -/

/-- `21` AND (zadr,X): R180 through R116. -/
def execAndIzx (zadr : Byte) (s : State) : Result := .next (runRead opAnd (.izx zadr) s)
/-- `25` AND zadr: R180 through R109. -/
def execAndZp (zadr : Byte) (s : State) : Result := .next (runRead opAnd (.zp zadr) s)
/-- `29` AND #v: R180 through R108. -/
def execAndImm (v : Byte) (s : State) : Result := .next (runRead opAnd (.imm v) s)
/-- `2D` AND addr: R180 through R112. -/
def execAndAbs (addr : Word) (s : State) : Result := .next (runRead opAnd (.abs addr) s)
/-- `31` AND (zadr),Y: R180 through R117. -/
def execAndIzy (zadr : Byte) (s : State) : Result := .next (runRead opAnd (.izy zadr) s)
/-- `32` AND (zadr): R180 through R118. -/
def execAndIzp (zadr : Byte) (s : State) : Result := .next (runRead opAnd (.izp zadr) s)
/-- `35` AND zadr,X: R180 through R110. -/
def execAndZpx (zadr : Byte) (s : State) : Result := .next (runRead opAnd (.zpx zadr) s)
/-- `39` AND addr,Y: R180 through R114. -/
def execAndAby (addr : Word) (s : State) : Result := .next (runRead opAnd (.aby addr) s)
/-- `3D` AND addr,X: R180 through R113. -/
def execAndAbx (addr : Word) (s : State) : Result := .next (runRead opAnd (.abx addr) s)

/-- `01` ORA (zadr,X): R181 through R116. -/
def execOraIzx (zadr : Byte) (s : State) : Result := .next (runRead opOra (.izx zadr) s)
/-- `05` ORA zadr: R181 through R109. -/
def execOraZp (zadr : Byte) (s : State) : Result := .next (runRead opOra (.zp zadr) s)
/-- `09` ORA #v: R181 through R108. -/
def execOraImm (v : Byte) (s : State) : Result := .next (runRead opOra (.imm v) s)
/-- `0D` ORA addr: R181 through R112. -/
def execOraAbs (addr : Word) (s : State) : Result := .next (runRead opOra (.abs addr) s)
/-- `11` ORA (zadr),Y: R181 through R117. -/
def execOraIzy (zadr : Byte) (s : State) : Result := .next (runRead opOra (.izy zadr) s)
/-- `12` ORA (zadr): R181 through R118. -/
def execOraIzp (zadr : Byte) (s : State) : Result := .next (runRead opOra (.izp zadr) s)
/-- `15` ORA zadr,X: R181 through R110. -/
def execOraZpx (zadr : Byte) (s : State) : Result := .next (runRead opOra (.zpx zadr) s)
/-- `19` ORA addr,Y: R181 through R114. -/
def execOraAby (addr : Word) (s : State) : Result := .next (runRead opOra (.aby addr) s)
/-- `1D` ORA addr,X: R181 through R113. -/
def execOraAbx (addr : Word) (s : State) : Result := .next (runRead opOra (.abx addr) s)

/-- `41` EOR (zadr,X): R182 through R116. -/
def execEorIzx (zadr : Byte) (s : State) : Result := .next (runRead opEor (.izx zadr) s)
/-- `45` EOR zadr: R182 through R109. -/
def execEorZp (zadr : Byte) (s : State) : Result := .next (runRead opEor (.zp zadr) s)
/-- `49` EOR #v: R182 through R108. -/
def execEorImm (v : Byte) (s : State) : Result := .next (runRead opEor (.imm v) s)
/-- `4D` EOR addr: R182 through R112. -/
def execEorAbs (addr : Word) (s : State) : Result := .next (runRead opEor (.abs addr) s)
/-- `51` EOR (zadr),Y: R182 through R117. -/
def execEorIzy (zadr : Byte) (s : State) : Result := .next (runRead opEor (.izy zadr) s)
/-- `52` EOR (zadr): R182 through R118. -/
def execEorIzp (zadr : Byte) (s : State) : Result := .next (runRead opEor (.izp zadr) s)
/-- `55` EOR zadr,X: R182 through R110. -/
def execEorZpx (zadr : Byte) (s : State) : Result := .next (runRead opEor (.zpx zadr) s)
/-- `59` EOR addr,Y: R182 through R114. -/
def execEorAby (addr : Word) (s : State) : Result := .next (runRead opEor (.aby addr) s)
/-- `5D` EOR addr,X: R182 through R113. -/
def execEorAbx (addr : Word) (s : State) : Result := .next (runRead opEor (.abx addr) s)

/-- `24` BIT zadr: R183 through R109. -/
def execBitZp (zadr : Byte) (s : State) : Result := .next (runRead opBit (.zp zadr) s)
/-- `2C` BIT addr: R183 through R112. -/
def execBitAbs (addr : Word) (s : State) : Result := .next (runRead opBit (.abs addr) s)
/-- `34` BIT zadr,X: R183 through R110. -/
def execBitZpx (zadr : Byte) (s : State) : Result := .next (runRead opBit (.zpx zadr) s)
/-- `3C` BIT addr,X: R183 through R113. -/
def execBitAbx (addr : Word) (s : State) : Result := .next (runRead opBit (.abx addr) s)
/-- `89` BIT #v: R183 through R108. -/
def execBitImm (v : Byte) (s : State) : Result := .next (runRead opBitImm (.imm v) s)

/-- `06` ASL zadr: R184 through R109. -/
def execAslZp (zadr : Byte) (s : State) : Result := .next (runRead opAsl (.zp zadr) s)
/-- `0A` ASL A: R184 through R107. -/
def execAslAcc (s : State) : Result := .next (runRead opAsl .acc s)
/-- `0E` ASL addr: R184 through R112. -/
def execAslAbs (addr : Word) (s : State) : Result := .next (runRead opAsl (.abs addr) s)
/-- `16` ASL zadr,X: R184 through R110. -/
def execAslZpx (zadr : Byte) (s : State) : Result := .next (runRead opAsl (.zpx zadr) s)
/-- `1E` ASL addr,X: R184 through R113. -/
def execAslAbx (addr : Word) (s : State) : Result := .next (runRead opAsl (.abx addr) s)

/-- `46` LSR zadr: R185 through R109. -/
def execLsrZp (zadr : Byte) (s : State) : Result := .next (runRead opLsr (.zp zadr) s)
/-- `4A` LSR A: R185 through R107. -/
def execLsrAcc (s : State) : Result := .next (runRead opLsr .acc s)
/-- `4E` LSR addr: R185 through R112. -/
def execLsrAbs (addr : Word) (s : State) : Result := .next (runRead opLsr (.abs addr) s)
/-- `56` LSR zadr,X: R185 through R110. -/
def execLsrZpx (zadr : Byte) (s : State) : Result := .next (runRead opLsr (.zpx zadr) s)
/-- `5E` LSR addr,X: R185 through R113. -/
def execLsrAbx (addr : Word) (s : State) : Result := .next (runRead opLsr (.abx addr) s)

/-- `26` ROL zadr: R186 through R109. -/
def execRolZp (zadr : Byte) (s : State) : Result := .next (runRead opRol (.zp zadr) s)
/-- `2A` ROL A: R186 through R107. -/
def execRolAcc (s : State) : Result := .next (runRead opRol .acc s)
/-- `2E` ROL addr: R186 through R112. -/
def execRolAbs (addr : Word) (s : State) : Result := .next (runRead opRol (.abs addr) s)
/-- `36` ROL zadr,X: R186 through R110. -/
def execRolZpx (zadr : Byte) (s : State) : Result := .next (runRead opRol (.zpx zadr) s)
/-- `3E` ROL addr,X: R186 through R113. -/
def execRolAbx (addr : Word) (s : State) : Result := .next (runRead opRol (.abx addr) s)

/-- `66` ROR zadr: R187 through R109. -/
def execRorZp (zadr : Byte) (s : State) : Result := .next (runRead opRor (.zp zadr) s)
/-- `6A` ROR A: R187 through R107. -/
def execRorAcc (s : State) : Result := .next (runRead opRor .acc s)
/-- `6E` ROR addr: R187 through R112. -/
def execRorAbs (addr : Word) (s : State) : Result := .next (runRead opRor (.abs addr) s)
/-- `76` ROR zadr,X: R187 through R110. -/
def execRorZpx (zadr : Byte) (s : State) : Result := .next (runRead opRor (.zpx zadr) s)
/-- `7E` ROR addr,X: R187 through R113. -/
def execRorAbx (addr : Word) (s : State) : Result := .next (runRead opRor (.abx addr) s)

/-- `14` TRB zadr: R188 through R109. -/
def execTrbZp (zadr : Byte) (s : State) : Result := .next (runRead opTrb (.zp zadr) s)
/-- `1C` TRB addr: R188 through R112. -/
def execTrbAbs (addr : Word) (s : State) : Result := .next (runRead opTrb (.abs addr) s)

/-- `04` TSB zadr: R189 through R109. -/
def execTsbZp (zadr : Byte) (s : State) : Result := .next (runRead opTsb (.zp zadr) s)
/-- `0C` TSB addr: R189 through R112. -/
def execTsbAbs (addr : Word) (s : State) : Result := .next (runRead opTsb (.abs addr) s)

/-- `07` RMB0 zadr: R190 through R109. -/
def execRmb0 (zadr : Byte) (s : State) : Result := .next (runRead (opRmb 0) (.zp zadr) s)
/-- `17` RMB1 zadr: R190 through R109. -/
def execRmb1 (zadr : Byte) (s : State) : Result := .next (runRead (opRmb 1) (.zp zadr) s)
/-- `27` RMB2 zadr: R190 through R109. -/
def execRmb2 (zadr : Byte) (s : State) : Result := .next (runRead (opRmb 2) (.zp zadr) s)
/-- `37` RMB3 zadr: R190 through R109. -/
def execRmb3 (zadr : Byte) (s : State) : Result := .next (runRead (opRmb 3) (.zp zadr) s)
/-- `47` RMB4 zadr: R190 through R109. -/
def execRmb4 (zadr : Byte) (s : State) : Result := .next (runRead (opRmb 4) (.zp zadr) s)
/-- `57` RMB5 zadr: R190 through R109. -/
def execRmb5 (zadr : Byte) (s : State) : Result := .next (runRead (opRmb 5) (.zp zadr) s)
/-- `67` RMB6 zadr: R190 through R109. -/
def execRmb6 (zadr : Byte) (s : State) : Result := .next (runRead (opRmb 6) (.zp zadr) s)
/-- `77` RMB7 zadr: R190 through R109. -/
def execRmb7 (zadr : Byte) (s : State) : Result := .next (runRead (opRmb 7) (.zp zadr) s)

/-- `87` SMB0 zadr: R191 through R109. -/
def execSmb0 (zadr : Byte) (s : State) : Result := .next (runRead (opSmb 0) (.zp zadr) s)
/-- `97` SMB1 zadr: R191 through R109. -/
def execSmb1 (zadr : Byte) (s : State) : Result := .next (runRead (opSmb 1) (.zp zadr) s)
/-- `A7` SMB2 zadr: R191 through R109. -/
def execSmb2 (zadr : Byte) (s : State) : Result := .next (runRead (opSmb 2) (.zp zadr) s)
/-- `B7` SMB3 zadr: R191 through R109. -/
def execSmb3 (zadr : Byte) (s : State) : Result := .next (runRead (opSmb 3) (.zp zadr) s)
/-- `C7` SMB4 zadr: R191 through R109. -/
def execSmb4 (zadr : Byte) (s : State) : Result := .next (runRead (opSmb 4) (.zp zadr) s)
/-- `D7` SMB5 zadr: R191 through R109. -/
def execSmb5 (zadr : Byte) (s : State) : Result := .next (runRead (opSmb 5) (.zp zadr) s)
/-- `E7` SMB6 zadr: R191 through R109. -/
def execSmb6 (zadr : Byte) (s : State) : Result := .next (runRead (opSmb 6) (.zp zadr) s)
/-- `F7` SMB7 zadr: R191 through R109. -/
def execSmb7 (zadr : Byte) (s : State) : Result := .next (runRead (opSmb 7) (.zp zadr) s)

end Sys2Proof.Machine
end

