-- ==== Sys2Proof/Machine/StackFlagsSystem.lean ====
section
/-!
DEFINITION. Stack and flag instructions, NOP, BRK, RTI, the illegal opcodes, STP and WAI
(45_stack_flags_system.md R220 to R241).
-/

namespace Sys2Proof.Machine

/-- PHA: `Push(A)` (R220). -/
def opPha : Oper := fun _ _ s => .done (push s.a s)
/-- PHP: `Push(FlagsByte(true))` (R221). -/
def opPhp : Oper := fun _ _ s => .done (push (flagsByte s.flags true) s)
/-- PHX: `Push(X)` (R222). -/
def opPhx : Oper := fun _ _ s => .done (push s.x s)
/-- PHY: `Push(Y)` (R223). -/
def opPhy : Oper := fun _ _ s => .done (push s.y s)

/-- PLA: `A <- Pop(); SetNZ(A)` (R224). -/
def opPla : Oper := fun _ _ s => .done (((pop s).2.setA (pop s).1).setNZ (pop s).1)
/-- PLP: `SetFlagsByte(Pop())` (R225). -/
def opPlp : Oper := fun _ _ s => .done ((pop s).2.setFlags (flagsOfByte (pop s).1))
/-- PLX: `X <- Pop(); SetNZ(X)` (R226). -/
def opPlx : Oper := fun _ _ s => .done (((pop s).2.setX (pop s).1).setNZ (pop s).1)
/-- PLY: `Y <- Pop(); SetNZ(Y)` (R227). -/
def opPly : Oper := fun _ _ s => .done (((pop s).2.setY (pop s).1).setNZ (pop s).1)

/-- CLC: `C <- false` (R228). -/
def opClc : Oper := fun _ _ s => .done (s.setFlags { s.flags with c := false })
/-- CLD: `D <- false` (R229). -/
def opCld : Oper := fun _ _ s => .done (s.setFlags { s.flags with d := false })
/-- CLI: `I <- false` (R230). -/
def opCli : Oper := fun _ _ s => .done (s.setFlags { s.flags with i := false })
/-- CLV: `V <- false` (R231). -/
def opClv : Oper := fun _ _ s => .done (s.setFlags { s.flags with v := false })
/-- SEC: `C <- true` (R232). -/
def opSec : Oper := fun _ _ s => .done (s.setFlags { s.flags with c := true })
/-- SED: `D <- true` (R233). -/
def opSed : Oper := fun _ _ s => .done (s.setFlags { s.flags with d := true })
/-- SEI: `I <- true` (R234). -/
def opSei : Oper := fun _ _ s => .done (s.setFlags { s.flags with i := true })

/-- NOP: nothing (R235). -/
def opNop : Oper := fun _ _ s => .done s

/-- BRK: `PC <- PC + 1`, past its padding byte, then the shared interrupt entry with Break set (R236). -/
def opBrk : Oper := fun _ _ s => .done (interrupt irqVector true (s.setPc (s.pc + 1#16)))

/-- RTI: the return from an interrupt (R237). -/
def opRti : Oper := fun _ _ s => .done (returnFromInterrupt s)

/-- STP: `stopped <- true` (R240). -/
def opStp : Oper := fun _ _ s => .done (s.setStopped true)

/-- WAI: `waiting <- true` (R241). -/
def opWai : Oper := fun _ _ s => .done (s.setWaiting true)

/-- ILL, any illegal opcode: a no-op in mode IMP that advances `PC` past `ILLEGAL_OPERAND_BYTES(op)`
bytes, none of which it reads (R238, 30_encoding.md R87). -/
def runIllegal (op : Byte) (s : State) : State :=
  runStages true false (illegalOperandBytes op) opNop .imp s

/-! ### The meanings, one per table row -/

/-- `48` PHA: R220 through R106. -/
def execPha (s : State) : Result := .next (runRead opPha .imp s)

/-- `08` PHP: R221 through R106. -/
def execPhp (s : State) : Result := .next (runRead opPhp .imp s)

/-- `DA` PHX: R222 through R106. -/
def execPhx (s : State) : Result := .next (runRead opPhx .imp s)

/-- `5A` PHY: R223 through R106. -/
def execPhy (s : State) : Result := .next (runRead opPhy .imp s)

/-- `68` PLA: R224 through R106. -/
def execPla (s : State) : Result := .next (runRead opPla .imp s)

/-- `28` PLP: R225 through R106. -/
def execPlp (s : State) : Result := .next (runRead opPlp .imp s)

/-- `FA` PLX: R226 through R106. -/
def execPlx (s : State) : Result := .next (runRead opPlx .imp s)

/-- `7A` PLY: R227 through R106. -/
def execPly (s : State) : Result := .next (runRead opPly .imp s)

/-- `18` CLC: R228 through R106. -/
def execClc (s : State) : Result := .next (runRead opClc .imp s)

/-- `D8` CLD: R229 through R106. -/
def execCld (s : State) : Result := .next (runRead opCld .imp s)

/-- `58` CLI: R230 through R106. -/
def execCli (s : State) : Result := .next (runRead opCli .imp s)

/-- `B8` CLV: R231 through R106. -/
def execClv (s : State) : Result := .next (runRead opClv .imp s)

/-- `38` SEC: R232 through R106. -/
def execSec (s : State) : Result := .next (runRead opSec .imp s)

/-- `F8` SED: R233 through R106. -/
def execSed (s : State) : Result := .next (runRead opSed .imp s)

/-- `78` SEI: R234 through R106. -/
def execSei (s : State) : Result := .next (runRead opSei .imp s)

/-- `EA` NOP: R235 through R106. -/
def execNop (s : State) : Result := .next (runRead opNop .imp s)

/-- `00` BRK: R236 through R106. -/
def execBrk (s : State) : Result := .next (runRead opBrk .imp s)

/-- `40` RTI: R237 through R106. -/
def execRti (s : State) : Result := .next (runRead opRti .imp s)

/-- `02` ILL: R238 through R106. -/
def execIll02 (s : State) : Result := .next (runIllegal 0x02#8 s)
/-- `03` ILL: R238 through R106. -/
def execIll03 (s : State) : Result := .next (runIllegal 0x03#8 s)
/-- `0B` ILL: R238 through R106. -/
def execIll0B (s : State) : Result := .next (runIllegal 0x0B#8 s)
/-- `13` ILL: R238 through R106. -/
def execIll13 (s : State) : Result := .next (runIllegal 0x13#8 s)
/-- `1B` ILL: R238 through R106. -/
def execIll1B (s : State) : Result := .next (runIllegal 0x1B#8 s)
/-- `22` ILL: R238 through R106. -/
def execIll22 (s : State) : Result := .next (runIllegal 0x22#8 s)
/-- `23` ILL: R238 through R106. -/
def execIll23 (s : State) : Result := .next (runIllegal 0x23#8 s)
/-- `2B` ILL: R238 through R106. -/
def execIll2B (s : State) : Result := .next (runIllegal 0x2B#8 s)
/-- `33` ILL: R238 through R106. -/
def execIll33 (s : State) : Result := .next (runIllegal 0x33#8 s)
/-- `3B` ILL: R238 through R106. -/
def execIll3B (s : State) : Result := .next (runIllegal 0x3B#8 s)
/-- `42` ILL: R238 through R106. -/
def execIll42 (s : State) : Result := .next (runIllegal 0x42#8 s)
/-- `43` ILL: R238 through R106. -/
def execIll43 (s : State) : Result := .next (runIllegal 0x43#8 s)
/-- `44` ILL: R238 through R106. -/
def execIll44 (s : State) : Result := .next (runIllegal 0x44#8 s)
/-- `4B` ILL: R238 through R106. -/
def execIll4B (s : State) : Result := .next (runIllegal 0x4B#8 s)
/-- `53` ILL: R238 through R106. -/
def execIll53 (s : State) : Result := .next (runIllegal 0x53#8 s)
/-- `54` ILL: R238 through R106. -/
def execIll54 (s : State) : Result := .next (runIllegal 0x54#8 s)
/-- `5B` ILL: R238 through R106. -/
def execIll5B (s : State) : Result := .next (runIllegal 0x5B#8 s)
/-- `5C` ILL: R238 through R106. -/
def execIll5C (s : State) : Result := .next (runIllegal 0x5C#8 s)
/-- `62` ILL: R238 through R106. -/
def execIll62 (s : State) : Result := .next (runIllegal 0x62#8 s)
/-- `63` ILL: R238 through R106. -/
def execIll63 (s : State) : Result := .next (runIllegal 0x63#8 s)
/-- `6B` ILL: R238 through R106. -/
def execIll6B (s : State) : Result := .next (runIllegal 0x6B#8 s)
/-- `73` ILL: R238 through R106. -/
def execIll73 (s : State) : Result := .next (runIllegal 0x73#8 s)
/-- `7B` ILL: R238 through R106. -/
def execIll7B (s : State) : Result := .next (runIllegal 0x7B#8 s)
/-- `82` ILL: R238 through R106. -/
def execIll82 (s : State) : Result := .next (runIllegal 0x82#8 s)
/-- `83` ILL: R238 through R106. -/
def execIll83 (s : State) : Result := .next (runIllegal 0x83#8 s)
/-- `8B` ILL: R238 through R106. -/
def execIll8B (s : State) : Result := .next (runIllegal 0x8B#8 s)
/-- `93` ILL: R238 through R106. -/
def execIll93 (s : State) : Result := .next (runIllegal 0x93#8 s)
/-- `9B` ILL: R238 through R106. -/
def execIll9B (s : State) : Result := .next (runIllegal 0x9B#8 s)
/-- `A3` ILL: R238 through R106. -/
def execIllA3 (s : State) : Result := .next (runIllegal 0xA3#8 s)
/-- `AB` ILL: R238 through R106. -/
def execIllAB (s : State) : Result := .next (runIllegal 0xAB#8 s)
/-- `B3` ILL: R238 through R106. -/
def execIllB3 (s : State) : Result := .next (runIllegal 0xB3#8 s)
/-- `BB` ILL: R238 through R106. -/
def execIllBB (s : State) : Result := .next (runIllegal 0xBB#8 s)
/-- `C2` ILL: R238 through R106. -/
def execIllC2 (s : State) : Result := .next (runIllegal 0xC2#8 s)
/-- `C3` ILL: R238 through R106. -/
def execIllC3 (s : State) : Result := .next (runIllegal 0xC3#8 s)
/-- `D3` ILL: R238 through R106. -/
def execIllD3 (s : State) : Result := .next (runIllegal 0xD3#8 s)
/-- `D4` ILL: R238 through R106. -/
def execIllD4 (s : State) : Result := .next (runIllegal 0xD4#8 s)
/-- `DC` ILL: R238 through R106. -/
def execIllDC (s : State) : Result := .next (runIllegal 0xDC#8 s)
/-- `E2` ILL: R238 through R106. -/
def execIllE2 (s : State) : Result := .next (runIllegal 0xE2#8 s)
/-- `E3` ILL: R238 through R106. -/
def execIllE3 (s : State) : Result := .next (runIllegal 0xE3#8 s)
/-- `EB` ILL: R238 through R106. -/
def execIllEB (s : State) : Result := .next (runIllegal 0xEB#8 s)
/-- `F3` ILL: R238 through R106. -/
def execIllF3 (s : State) : Result := .next (runIllegal 0xF3#8 s)
/-- `F4` ILL: R238 through R106. -/
def execIllF4 (s : State) : Result := .next (runIllegal 0xF4#8 s)
/-- `FB` ILL: R238 through R106. -/
def execIllFB (s : State) : Result := .next (runIllegal 0xFB#8 s)
/-- `FC` ILL: R238 through R106. -/
def execIllFC (s : State) : Result := .next (runIllegal 0xFC#8 s)

/-- `DB` STP: R240 through R106. -/
def execStp (s : State) : Result := .next (runRead opStp .imp s)

/-- `CB` WAI: R241 through R106. -/
def execWai (s : State) : Result := .next (runRead opWai .imp s)

end Sys2Proof.Machine
end

