-- ==== Sys2Proof/Machine/Dispatch.lean ====
section
/-!
DEFINITION. The dispatch table (10_state.md R43): one arm per row of the opcode table.
The state is that at the start of the addressing stage (40_engine_and_addressing.md R100, R101): `PC`
is the address of the byte after the opcode.
-/

namespace Sys2Proof.Machine

def exec (i : Instr) (s : State) : Host.Outcome State Fault Refusal :=
  match i with
  | .oraIzx zadr => Sys2Proof.Machine.execOraIzx zadr s
  | .tsbZp zadr => Sys2Proof.Machine.execTsbZp zadr s
  | .oraZp zadr => Sys2Proof.Machine.execOraZp zadr s
  | .aslZp zadr => Sys2Proof.Machine.execAslZp zadr s
  | .rmb0 zadr => Sys2Proof.Machine.execRmb0 zadr s
  | .oraImm v => Sys2Proof.Machine.execOraImm v s
  | .tsbAbs addr => Sys2Proof.Machine.execTsbAbs addr s
  | .oraAbs addr => Sys2Proof.Machine.execOraAbs addr s
  | .aslAbs addr => Sys2Proof.Machine.execAslAbs addr s
  | .bbr0 zadr disp => Sys2Proof.Machine.execBbr0 zadr disp s
  | .bpl disp => Sys2Proof.Machine.execBpl disp s
  | .oraIzy zadr => Sys2Proof.Machine.execOraIzy zadr s
  | .oraIzp zadr => Sys2Proof.Machine.execOraIzp zadr s
  | .trbZp zadr => Sys2Proof.Machine.execTrbZp zadr s
  | .oraZpx zadr => Sys2Proof.Machine.execOraZpx zadr s
  | .aslZpx zadr => Sys2Proof.Machine.execAslZpx zadr s
  | .rmb1 zadr => Sys2Proof.Machine.execRmb1 zadr s
  | .oraAby addr => Sys2Proof.Machine.execOraAby addr s
  | .trbAbs addr => Sys2Proof.Machine.execTrbAbs addr s
  | .oraAbx addr => Sys2Proof.Machine.execOraAbx addr s
  | .aslAbx addr => Sys2Proof.Machine.execAslAbx addr s
  | .bbr1 zadr disp => Sys2Proof.Machine.execBbr1 zadr disp s
  | .jsr addr => Sys2Proof.Machine.execJsr addr s
  | .andIzx zadr => Sys2Proof.Machine.execAndIzx zadr s
  | .bitZp zadr => Sys2Proof.Machine.execBitZp zadr s
  | .andZp zadr => Sys2Proof.Machine.execAndZp zadr s
  | .rolZp zadr => Sys2Proof.Machine.execRolZp zadr s
  | .rmb2 zadr => Sys2Proof.Machine.execRmb2 zadr s
  | .andImm v => Sys2Proof.Machine.execAndImm v s
  | .bitAbs addr => Sys2Proof.Machine.execBitAbs addr s
  | .andAbs addr => Sys2Proof.Machine.execAndAbs addr s
  | .rolAbs addr => Sys2Proof.Machine.execRolAbs addr s
  | .bbr2 zadr disp => Sys2Proof.Machine.execBbr2 zadr disp s
  | .bmi disp => Sys2Proof.Machine.execBmi disp s
  | .andIzy zadr => Sys2Proof.Machine.execAndIzy zadr s
  | .andIzp zadr => Sys2Proof.Machine.execAndIzp zadr s
  | .bitZpx zadr => Sys2Proof.Machine.execBitZpx zadr s
  | .andZpx zadr => Sys2Proof.Machine.execAndZpx zadr s
  | .rolZpx zadr => Sys2Proof.Machine.execRolZpx zadr s
  | .rmb3 zadr => Sys2Proof.Machine.execRmb3 zadr s
  | .andAby addr => Sys2Proof.Machine.execAndAby addr s
  | .bitAbx addr => Sys2Proof.Machine.execBitAbx addr s
  | .andAbx addr => Sys2Proof.Machine.execAndAbx addr s
  | .rolAbx addr => Sys2Proof.Machine.execRolAbx addr s
  | .bbr3 zadr disp => Sys2Proof.Machine.execBbr3 zadr disp s
  | .eorIzx zadr => Sys2Proof.Machine.execEorIzx zadr s
  | .eorZp zadr => Sys2Proof.Machine.execEorZp zadr s
  | .lsrZp zadr => Sys2Proof.Machine.execLsrZp zadr s
  | .rmb4 zadr => Sys2Proof.Machine.execRmb4 zadr s
  | .eorImm v => Sys2Proof.Machine.execEorImm v s
  | .jmpAbs addr => Sys2Proof.Machine.execJmpAbs addr s
  | .eorAbs addr => Sys2Proof.Machine.execEorAbs addr s
  | .lsrAbs addr => Sys2Proof.Machine.execLsrAbs addr s
  | .bbr4 zadr disp => Sys2Proof.Machine.execBbr4 zadr disp s
  | .bvc disp => Sys2Proof.Machine.execBvc disp s
  | .eorIzy zadr => Sys2Proof.Machine.execEorIzy zadr s
  | .eorIzp zadr => Sys2Proof.Machine.execEorIzp zadr s
  | .eorZpx zadr => Sys2Proof.Machine.execEorZpx zadr s
  | .lsrZpx zadr => Sys2Proof.Machine.execLsrZpx zadr s
  | .rmb5 zadr => Sys2Proof.Machine.execRmb5 zadr s
  | .eorAby addr => Sys2Proof.Machine.execEorAby addr s
  | .eorAbx addr => Sys2Proof.Machine.execEorAbx addr s
  | .lsrAbx addr => Sys2Proof.Machine.execLsrAbx addr s
  | .bbr5 zadr disp => Sys2Proof.Machine.execBbr5 zadr disp s
  | .adcIzx zadr => Sys2Proof.Machine.execAdcIzx zadr s
  | .stzZp zadr => Sys2Proof.Machine.execStzZp zadr s
  | .adcZp zadr => Sys2Proof.Machine.execAdcZp zadr s
  | .rorZp zadr => Sys2Proof.Machine.execRorZp zadr s
  | .rmb6 zadr => Sys2Proof.Machine.execRmb6 zadr s
  | .adcImm v => Sys2Proof.Machine.execAdcImm v s
  | .jmpInd ptr => Sys2Proof.Machine.execJmpInd ptr s
  | .adcAbs addr => Sys2Proof.Machine.execAdcAbs addr s
  | .rorAbs addr => Sys2Proof.Machine.execRorAbs addr s
  | .bbr6 zadr disp => Sys2Proof.Machine.execBbr6 zadr disp s
  | .bvs disp => Sys2Proof.Machine.execBvs disp s
  | .adcIzy zadr => Sys2Proof.Machine.execAdcIzy zadr s
  | .adcIzp zadr => Sys2Proof.Machine.execAdcIzp zadr s
  | .stzZpx zadr => Sys2Proof.Machine.execStzZpx zadr s
  | .adcZpx zadr => Sys2Proof.Machine.execAdcZpx zadr s
  | .rorZpx zadr => Sys2Proof.Machine.execRorZpx zadr s
  | .rmb7 zadr => Sys2Proof.Machine.execRmb7 zadr s
  | .adcAby addr => Sys2Proof.Machine.execAdcAby addr s
  | .jmpIax ptr => Sys2Proof.Machine.execJmpIax ptr s
  | .adcAbx addr => Sys2Proof.Machine.execAdcAbx addr s
  | .rorAbx addr => Sys2Proof.Machine.execRorAbx addr s
  | .bbr7 zadr disp => Sys2Proof.Machine.execBbr7 zadr disp s
  | .bra disp => Sys2Proof.Machine.execBra disp s
  | .staIzx zadr => Sys2Proof.Machine.execStaIzx zadr s
  | .styZp zadr => Sys2Proof.Machine.execStyZp zadr s
  | .staZp zadr => Sys2Proof.Machine.execStaZp zadr s
  | .stxZp zadr => Sys2Proof.Machine.execStxZp zadr s
  | .smb0 zadr => Sys2Proof.Machine.execSmb0 zadr s
  | .bitImm v => Sys2Proof.Machine.execBitImm v s
  | .styAbs addr => Sys2Proof.Machine.execStyAbs addr s
  | .staAbs addr => Sys2Proof.Machine.execStaAbs addr s
  | .stxAbs addr => Sys2Proof.Machine.execStxAbs addr s
  | .bbs0 zadr disp => Sys2Proof.Machine.execBbs0 zadr disp s
  | .bcc disp => Sys2Proof.Machine.execBcc disp s
  | .staIzy zadr => Sys2Proof.Machine.execStaIzy zadr s
  | .staIzp zadr => Sys2Proof.Machine.execStaIzp zadr s
  | .styZpx zadr => Sys2Proof.Machine.execStyZpx zadr s
  | .staZpx zadr => Sys2Proof.Machine.execStaZpx zadr s
  | .stxZpy zadr => Sys2Proof.Machine.execStxZpy zadr s
  | .smb1 zadr => Sys2Proof.Machine.execSmb1 zadr s
  | .staAby addr => Sys2Proof.Machine.execStaAby addr s
  | .stzAbs addr => Sys2Proof.Machine.execStzAbs addr s
  | .staAbx addr => Sys2Proof.Machine.execStaAbx addr s
  | .stzAbx addr => Sys2Proof.Machine.execStzAbx addr s
  | .bbs1 zadr disp => Sys2Proof.Machine.execBbs1 zadr disp s
  | .ldyImm v => Sys2Proof.Machine.execLdyImm v s
  | .ldaIzx zadr => Sys2Proof.Machine.execLdaIzx zadr s
  | .ldxImm v => Sys2Proof.Machine.execLdxImm v s
  | .ldyZp zadr => Sys2Proof.Machine.execLdyZp zadr s
  | .ldaZp zadr => Sys2Proof.Machine.execLdaZp zadr s
  | .ldxZp zadr => Sys2Proof.Machine.execLdxZp zadr s
  | .smb2 zadr => Sys2Proof.Machine.execSmb2 zadr s
  | .ldaImm v => Sys2Proof.Machine.execLdaImm v s
  | .ldyAbs addr => Sys2Proof.Machine.execLdyAbs addr s
  | .ldaAbs addr => Sys2Proof.Machine.execLdaAbs addr s
  | .ldxAbs addr => Sys2Proof.Machine.execLdxAbs addr s
  | .bbs2 zadr disp => Sys2Proof.Machine.execBbs2 zadr disp s
  | .bcs disp => Sys2Proof.Machine.execBcs disp s
  | .ldaIzy zadr => Sys2Proof.Machine.execLdaIzy zadr s
  | .ldaIzp zadr => Sys2Proof.Machine.execLdaIzp zadr s
  | .ldyZpx zadr => Sys2Proof.Machine.execLdyZpx zadr s
  | .ldaZpx zadr => Sys2Proof.Machine.execLdaZpx zadr s
  | .ldxZpy zadr => Sys2Proof.Machine.execLdxZpy zadr s
  | .smb3 zadr => Sys2Proof.Machine.execSmb3 zadr s
  | .ldaAby addr => Sys2Proof.Machine.execLdaAby addr s
  | .ldyAbx addr => Sys2Proof.Machine.execLdyAbx addr s
  | .ldaAbx addr => Sys2Proof.Machine.execLdaAbx addr s
  | .ldxAby addr => Sys2Proof.Machine.execLdxAby addr s
  | .bbs3 zadr disp => Sys2Proof.Machine.execBbs3 zadr disp s
  | .cpyImm v => Sys2Proof.Machine.execCpyImm v s
  | .cmpIzx zadr => Sys2Proof.Machine.execCmpIzx zadr s
  | .cpyZp zadr => Sys2Proof.Machine.execCpyZp zadr s
  | .cmpZp zadr => Sys2Proof.Machine.execCmpZp zadr s
  | .decZp zadr => Sys2Proof.Machine.execDecZp zadr s
  | .smb4 zadr => Sys2Proof.Machine.execSmb4 zadr s
  | .cmpImm v => Sys2Proof.Machine.execCmpImm v s
  | .cpyAbs addr => Sys2Proof.Machine.execCpyAbs addr s
  | .cmpAbs addr => Sys2Proof.Machine.execCmpAbs addr s
  | .decAbs addr => Sys2Proof.Machine.execDecAbs addr s
  | .bbs4 zadr disp => Sys2Proof.Machine.execBbs4 zadr disp s
  | .bne disp => Sys2Proof.Machine.execBne disp s
  | .cmpIzy zadr => Sys2Proof.Machine.execCmpIzy zadr s
  | .cmpIzp zadr => Sys2Proof.Machine.execCmpIzp zadr s
  | .cmpZpx zadr => Sys2Proof.Machine.execCmpZpx zadr s
  | .decZpx zadr => Sys2Proof.Machine.execDecZpx zadr s
  | .smb5 zadr => Sys2Proof.Machine.execSmb5 zadr s
  | .cmpAby addr => Sys2Proof.Machine.execCmpAby addr s
  | .cmpAbx addr => Sys2Proof.Machine.execCmpAbx addr s
  | .decAbx addr => Sys2Proof.Machine.execDecAbx addr s
  | .bbs5 zadr disp => Sys2Proof.Machine.execBbs5 zadr disp s
  | .cpxImm v => Sys2Proof.Machine.execCpxImm v s
  | .sbcIzx zadr => Sys2Proof.Machine.execSbcIzx zadr s
  | .cpxZp zadr => Sys2Proof.Machine.execCpxZp zadr s
  | .sbcZp zadr => Sys2Proof.Machine.execSbcZp zadr s
  | .incZp zadr => Sys2Proof.Machine.execIncZp zadr s
  | .smb6 zadr => Sys2Proof.Machine.execSmb6 zadr s
  | .sbcImm v => Sys2Proof.Machine.execSbcImm v s
  | .cpxAbs addr => Sys2Proof.Machine.execCpxAbs addr s
  | .sbcAbs addr => Sys2Proof.Machine.execSbcAbs addr s
  | .incAbs addr => Sys2Proof.Machine.execIncAbs addr s
  | .bbs6 zadr disp => Sys2Proof.Machine.execBbs6 zadr disp s
  | .beq disp => Sys2Proof.Machine.execBeq disp s
  | .sbcIzy zadr => Sys2Proof.Machine.execSbcIzy zadr s
  | .sbcIzp zadr => Sys2Proof.Machine.execSbcIzp zadr s
  | .sbcZpx zadr => Sys2Proof.Machine.execSbcZpx zadr s
  | .incZpx zadr => Sys2Proof.Machine.execIncZpx zadr s
  | .smb7 zadr => Sys2Proof.Machine.execSmb7 zadr s
  | .sbcAby addr => Sys2Proof.Machine.execSbcAby addr s
  | .sbcAbx addr => Sys2Proof.Machine.execSbcAbx addr s
  | .incAbx addr => Sys2Proof.Machine.execIncAbx addr s
  | .bbs7 zadr disp => Sys2Proof.Machine.execBbs7 zadr disp s
  | .brk => Sys2Proof.Machine.execBrk s
  | .ill02 => Sys2Proof.Machine.execIll02 s
  | .ill03 => Sys2Proof.Machine.execIll03 s
  | .php => Sys2Proof.Machine.execPhp s
  | .aslAcc => Sys2Proof.Machine.execAslAcc s
  | .ill0B => Sys2Proof.Machine.execIll0B s
  | .ill13 => Sys2Proof.Machine.execIll13 s
  | .clc => Sys2Proof.Machine.execClc s
  | .incAcc => Sys2Proof.Machine.execIncAcc s
  | .ill1B => Sys2Proof.Machine.execIll1B s
  | .ill22 => Sys2Proof.Machine.execIll22 s
  | .ill23 => Sys2Proof.Machine.execIll23 s
  | .plp => Sys2Proof.Machine.execPlp s
  | .rolAcc => Sys2Proof.Machine.execRolAcc s
  | .ill2B => Sys2Proof.Machine.execIll2B s
  | .ill33 => Sys2Proof.Machine.execIll33 s
  | .sec => Sys2Proof.Machine.execSec s
  | .decAcc => Sys2Proof.Machine.execDecAcc s
  | .ill3B => Sys2Proof.Machine.execIll3B s
  | .rti => Sys2Proof.Machine.execRti s
  | .ill42 => Sys2Proof.Machine.execIll42 s
  | .ill43 => Sys2Proof.Machine.execIll43 s
  | .ill44 => Sys2Proof.Machine.execIll44 s
  | .pha => Sys2Proof.Machine.execPha s
  | .lsrAcc => Sys2Proof.Machine.execLsrAcc s
  | .ill4B => Sys2Proof.Machine.execIll4B s
  | .ill53 => Sys2Proof.Machine.execIll53 s
  | .ill54 => Sys2Proof.Machine.execIll54 s
  | .cli => Sys2Proof.Machine.execCli s
  | .phy => Sys2Proof.Machine.execPhy s
  | .ill5B => Sys2Proof.Machine.execIll5B s
  | .ill5C => Sys2Proof.Machine.execIll5C s
  | .rts => Sys2Proof.Machine.execRts s
  | .ill62 => Sys2Proof.Machine.execIll62 s
  | .ill63 => Sys2Proof.Machine.execIll63 s
  | .pla => Sys2Proof.Machine.execPla s
  | .rorAcc => Sys2Proof.Machine.execRorAcc s
  | .ill6B => Sys2Proof.Machine.execIll6B s
  | .ill73 => Sys2Proof.Machine.execIll73 s
  | .sei => Sys2Proof.Machine.execSei s
  | .ply => Sys2Proof.Machine.execPly s
  | .ill7B => Sys2Proof.Machine.execIll7B s
  | .ill82 => Sys2Proof.Machine.execIll82 s
  | .ill83 => Sys2Proof.Machine.execIll83 s
  | .dey => Sys2Proof.Machine.execDey s
  | .txa => Sys2Proof.Machine.execTxa s
  | .ill8B => Sys2Proof.Machine.execIll8B s
  | .ill93 => Sys2Proof.Machine.execIll93 s
  | .tya => Sys2Proof.Machine.execTya s
  | .txs => Sys2Proof.Machine.execTxs s
  | .ill9B => Sys2Proof.Machine.execIll9B s
  | .illA3 => Sys2Proof.Machine.execIllA3 s
  | .tay => Sys2Proof.Machine.execTay s
  | .tax => Sys2Proof.Machine.execTax s
  | .illAB => Sys2Proof.Machine.execIllAB s
  | .illB3 => Sys2Proof.Machine.execIllB3 s
  | .clv => Sys2Proof.Machine.execClv s
  | .tsx => Sys2Proof.Machine.execTsx s
  | .illBB => Sys2Proof.Machine.execIllBB s
  | .illC2 => Sys2Proof.Machine.execIllC2 s
  | .illC3 => Sys2Proof.Machine.execIllC3 s
  | .iny => Sys2Proof.Machine.execIny s
  | .dex => Sys2Proof.Machine.execDex s
  | .wai => Sys2Proof.Machine.execWai s
  | .illD3 => Sys2Proof.Machine.execIllD3 s
  | .illD4 => Sys2Proof.Machine.execIllD4 s
  | .cld => Sys2Proof.Machine.execCld s
  | .phx => Sys2Proof.Machine.execPhx s
  | .stp => Sys2Proof.Machine.execStp s
  | .illDC => Sys2Proof.Machine.execIllDC s
  | .illE2 => Sys2Proof.Machine.execIllE2 s
  | .illE3 => Sys2Proof.Machine.execIllE3 s
  | .inx => Sys2Proof.Machine.execInx s
  | .nop => Sys2Proof.Machine.execNop s
  | .illEB => Sys2Proof.Machine.execIllEB s
  | .illF3 => Sys2Proof.Machine.execIllF3 s
  | .illF4 => Sys2Proof.Machine.execIllF4 s
  | .sed => Sys2Proof.Machine.execSed s
  | .plx => Sys2Proof.Machine.execPlx s
  | .illFB => Sys2Proof.Machine.execIllFB s
  | .illFC => Sys2Proof.Machine.execIllFC s

end Sys2Proof.Machine
end

