-- ==== Sys2Proof/Machine/Fetch.lean ====
section
/-!
DEFINITION. Stage 3 of a step (40_engine_and_addressing.md R100): the opcode is fetched at `PC`, `PC`
advances by one, the base cycles are counted, and the operand bytes are read at `PC` and `PC + 1`
(R101), each through the intercept path (20_memory.md R69). Afterwards the instruction is whole and
the addressing stage starts. Also the end of a step, stage 8.
-/

namespace Sys2Proof.Machine

/-- The displacement of a BBRn or BBSn, whose read comes after that of the zero-page byte (R210: the
order opcode, `zp` byte, `Memory[zp]`, displacement), with `PC` at the next instruction: the byte that
read is going to return. Its effects are left to the operation stage, which makes it (log 12). -/
def peekDisplacement (zp : Byte) (s : State) : Byte :=
  (memRead (s.pc + 1#16) ((resolve true (.zpr zp 0#8) s).advance 2)).1

/-- Stage 3 up to the opcode: `oldPC <- PC; opcode <- MemRead(PC, 1); PC <- PC + 1`, base cycles. -/
def fetchOpcode (s : State) : Byte × State :=
  let r := memRead s.pc (s.setOldPc s.pc)
  (r.1, (r.2.setPc (s.pc + 1#16)).addCycles (baseCycles r.1))

/-- The instruction at `PC` and the state at the start of its addressing stage. -/
def fetch (s : State) : Instr × State :=
  let o := fetchOpcode s
  match opcodeLayout o.1 with
  | .f0 => (decodeOpcode o.1 0#8 0#8, o.2)
  | .f1 =>
    let r1 := memRead o.2.pc o.2
    (decodeOpcode o.1 r1.1 0#8, r1.2)
  | .f2 =>
    let r1 := memRead o.2.pc o.2
    let r2 := memRead (o.2.pc + 1#16) r1.2
    (decodeOpcode o.1 r1.1 r2.1, r2.2)
  | .f3 =>
    let r1 := memRead o.2.pc o.2
    (decodeOpcode o.1 r1.1 (peekDisplacement r1.1 r1.2), r1.2)

/-- Stage 8: return the accumulated cycle count and reset the counter. -/
def endStep (s : State) : State := (s.setReturned s.cycles).setCycles 0

/-- The state whose next step fetches and runs the instruction of the bytes `bs`: they stand at `PC`,
no hook is bound there, and the core is neither stopped nor waiting (log 13). -/
def placeAtPc (bs : List Byte) (s : State) : State :=
  match bs with
  | [] => (s.setStopped false).setWaiting false
  | b :: rest =>
    let t := placeAtPc rest (s.setPc (s.pc + 1#16))
    ((t.setIntercepts (hookErase t.intercepts s.pc.toNat)).putByte s.pc b).setPc s.pc

end Sys2Proof.Machine
end

