-- ==== Sys2Proof/Machine/Step.lean ====
section
/-!
DEFINITION. `ExecuteOneInstruction` (40_engine_and_addressing.md R100), the only way the core makes
progress, and the placement of one instruction for the host's checks.
-/

namespace Sys2Proof.Machine

/-- One step. Stage 1: a stopped core returns 0 and does nothing. Stage 2: a waiting core skips stages
3 to 6. Stage 3 is `fetch`, stages 4 to 6 are `exec`, stage 7 is `irqCheck`, stage 8 is `endStep`. -/
def step (s : State) : Host.Outcome State Fault Refusal :=
  if s.stopped then .next (s.setReturned 0)
  else if s.waiting then .next (endStep (irqCheck s))
  else
    match exec (fetch s).1 (fetch s).2 with
    | .next t => .next (endStep (irqCheck t))
    | .fault r => .fault r
    | .refused r => .refused r

/-- `s` with the instruction of the `nbits` bits of `w` (zeros above them) stored where the next step
fetches: three bytes from `PC` on, the longest instruction (30_encoding.md R80). -/
def State.withFetchWord (s : State) (nbits w : Nat) : State :=
  let v := w % 2 ^ nbits
  placeAtPc [tableByte v 0, tableByte v 1, tableByte v 2] s

end Sys2Proof.Machine
end

