-- ==== Sys2Proof/Machine/HostCalls.lean ====
section
/-!
DEFINITION. The host's control entry points (60_exceptions.md R262 to R266; 20_memory.md R56, R57,
R72; 70_reset_and_hazards.md R280), each a function of the state between two steps (log 14).
`executeOneInstruction` is `step`.
-/

namespace Sys2Proof.Machine

/-- `raiseMaskableInterrupt(sourceId)` (R262). -/
def raiseMaskableInterrupt (k : SourceId) (s : State) : State := s.setPending (insertSource s.pending k)

/-- `clearMaskableInterrupt(sourceId)` (R263). -/
def clearMaskableInterrupt (k : SourceId) (s : State) : State := s.setPending (removeSource s.pending k)

/-- `nonMaskableInterrupt()` (R264): the shared entry through the NMI vector, then `waiting <- false`.
It touches neither `cycles` nor `stopped` (D14, R273). -/
def nonMaskableInterrupt (s : State) : State := (interrupt nmiVector false s).setWaiting false

/-- `setPC(address)` (R265). -/
def setPC (address : Word) (s : State) : State := s.setPc address

/-- `writeMemory(a, v)` is `MemWrite(a, 1, v)` (20_memory.md R72). -/
def writeMemory (a : Word) (v : Byte) (s : State) : State := memWrite a v s

/-- `readMemoryByte(a)` is `MemRead(a, 1)` (R72). -/
def readMemoryByte (a : Word) (s : State) : Byte × State := memRead a s

/-- `readMemoryWord(a)` is `MemRead16(a)` (R72). -/
def readMemoryWord (a : Word) (s : State) : Word × State := memRead16 a s

/-- `bindRange(start, length, handler)` (R51, R56): refused, changing nothing, when `start` or
`start + length - 1` is outside 0 .. 65535 (D20, log 18). -/
def bindRange (start len : Nat) (h : Hook) (s : State) : State :=
  if start < 65536 ∧ 0 < len ∧ start + len ≤ 65536 then
    s.setIntercepts (hookPutRange s.intercepts start h len)
  else s

/-- `bindIntercept(addr, handler)` (R56). -/
def bindIntercept (addr : Nat) (h : Hook) (s : State) : State := bindRange addr 1 h s

/-- `clearRange(start, length)` (R56): nothing is bound there afterwards, memory is untouched (log 18). -/
def clearRange (start len : Nat) (s : State) : State :=
  s.setIntercepts (hookEraseRange s.intercepts start len)

/-- `copyBytes(start, bytes)` (R57): raw writes past every hook, addresses modulo 65536. -/
def copyBytes (start : Word) (bytes : List Byte) (s : State) : State :=
  match bytes with
  | [] => s
  | b :: rest => copyBytes (start + 1#16) rest (s.putByte start b)

/-- `resetCpu()` (70_reset_and_hazards.md R280). -/
def resetCpu (s : State) : State :=
  let t : State := { s with
    a := 0x00#8, x := 0x00#8, y := 0x00#8, sp := 0xFD#8, flags := { s.flags with i := true },
    stopped := false, waiting := false, cycles := 0 }
  let r := memRead16 resetVector t
  r.2.setPc r.1

/-- A call the host makes between two steps. -/
inductive HostCall where
  | resetCpu
  | raiseMaskableInterrupt (k : SourceId)
  | clearMaskableInterrupt (k : SourceId)
  | nonMaskableInterrupt
  | setPC (address : Word)
  | writeMemory (a : Word) (v : Byte)
  | readMemoryByte (a : Word)
  | readMemoryWord (a : Word)
  | bindIntercept (addr : Nat) (h : Hook)
  | bindRange (start len : Nat) (h : Hook)
  | clearRange (start len : Nat)
  | copyBytes (start : Word) (bytes : List Byte)
  deriving DecidableEq, Repr

/-- What a host call does to the state. -/
def hostCall (c : HostCall) (s : State) : State :=
  match c with
  | .resetCpu => Sys2Proof.Machine.resetCpu s
  | .raiseMaskableInterrupt k => Sys2Proof.Machine.raiseMaskableInterrupt k s
  | .clearMaskableInterrupt k => Sys2Proof.Machine.clearMaskableInterrupt k s
  | .nonMaskableInterrupt => Sys2Proof.Machine.nonMaskableInterrupt s
  | .setPC address => Sys2Proof.Machine.setPC address s
  | .writeMemory a v => Sys2Proof.Machine.writeMemory a v s
  | .readMemoryByte a => (Sys2Proof.Machine.readMemoryByte a s).2
  | .readMemoryWord a => (Sys2Proof.Machine.readMemoryWord a s).2
  | .bindIntercept addr h => Sys2Proof.Machine.bindIntercept addr h s
  | .bindRange start len h => Sys2Proof.Machine.bindRange start len h s
  | .clearRange start len => Sys2Proof.Machine.clearRange start len s
  | .copyBytes start bytes => Sys2Proof.Machine.copyBytes start bytes s

end Sys2Proof.Machine
end

