-- ==== Sys2Proof/Safety.lean ====
section
/-!
DEFINITION. What claims are stated in: the invariant of a state between two steps (10_state.md R39,
R40), the runs of the core with the host acting between its steps (00_scope.md R7, R8), and what it
means that a step never stops (60_exceptions.md R250).
-/

namespace Sys2Proof.Machine

/-- The invariant between two steps. The widths of R39 are in the types; what is left is that memory,
the intercept table and the pending set are in canonical form over their ranges (R50, R51, R35), and
that `cycles` is 0 (R40). -/
def State.Inv (s : State) : Prop :=
  Memory.wf s.mem = true ∧ interceptsWf s.intercepts = true ∧ pendingWf s.pending = true ∧ s.cycles = 0

/-- The same but for `cycles`, which is not 0 inside a step. -/
def State.Canonical (s : State) : Prop :=
  Memory.wf s.mem = true ∧ interceptsWf s.intercepts = true ∧ pendingWf s.pending = true

/-- The state less its memory and hook-call count: every register, flag and control bit, the pending
set, the intercept table and the two counts of cycles. No memory access changes any of it. -/
def State.noMem (s : State) : State := (s.setMem []).setHookCalls 0

/-- The state the operation stage of an instruction sees: the mode's reads made and its extra cycles
counted, `PC` at the next sequential instruction (40_engine_and_addressing.md R100, R101). -/
def afterMode (load : Bool) (m : Operand) (s : State) : State :=
  (resolve load m s).advance m.mode.byteCount

/-- The addresses a mode reads to find its effective address, in order (R115 to R119). -/
def pointerReads (m : Operand) (s : State) : List Word :=
  match m with
  | .imp => []
  | .acc => []
  | .imm _ => []
  | .zp _ => []
  | .zpx _ => []
  | .zpy _ => []
  | .abs _ => []
  | .abx _ => []
  | .aby _ => []
  | .ind ptr => [ptr, mkWord (hiByte ptr) (loByte ptr + 1#8)]
  | .izx z => [zeroExt (z + s.x), zeroExt (z + s.x + 1#8)]
  | .izy z => [zeroExt z, zeroExt (z + 1#8)]
  | .izp z => [zeroExt z, zeroExt (z + 1#8)]
  | .iax ptr => [ptr + zeroExt s.x, ptr + zeroExt s.x + 1#16]
  | .rel _ => []
  | .zpr _ _ => []

/-- Push the bytes of a list, its head first. -/
def pushAll : List Byte → State → State
  | [], s => s
  | b :: rest, s => pushAll rest (push b s)

/-- `n` pops: the bytes in the order they came, and the state after. -/
def popAll : Nat → State → List Byte × State
  | 0, s => ([], s)
  | n + 1, s =>
    let r := pop s
    let q := popAll n r.2
    (r.1 :: q.1, q.2)

/-- `t` can follow `s`: one step of the core, or one call of the host. -/
inductive Follows (s : State) : State → Prop where
  | byStep (t : State) : step s = .next t → Follows s t
  | byHost (c : HostCall) : Follows s (hostCall c s)

/-- `t` is reached from `s` by steps and host calls in any order. -/
inductive Reaches (s : State) : State → Prop where
  | here : Reaches s s
  | more (t u : State) : Reaches s t → Follows t u → Reaches s u

/-- The step never stops: it always answers a next state. -/
def NeverStops (s : State) : Prop := ∃ t, step s = .next t

end Sys2Proof.Machine
end

