-- ==== Sys2Proof/Laws/State.lean ====
section
/-!
SUPPORT. One lemma per field per update of State, each true by unfolding, so that no later proof
unfolds a record update; and what each update does to a hook lookup and to the byte at an address.
-/

namespace Sys2Proof.Machine

section
variable (s : State)

/-! `setPc` -/
@[simp] theorem State.setPc_pc (v : Word) : (s.setPc v).pc = v := rfl
@[simp] theorem State.setPc_oldPc (v : Word) : (s.setPc v).oldPc = s.oldPc := rfl
@[simp] theorem State.setPc_a (v : Word) : (s.setPc v).a = s.a := rfl
@[simp] theorem State.setPc_x (v : Word) : (s.setPc v).x = s.x := rfl
@[simp] theorem State.setPc_y (v : Word) : (s.setPc v).y = s.y := rfl
@[simp] theorem State.setPc_sp (v : Word) : (s.setPc v).sp = s.sp := rfl
@[simp] theorem State.setPc_flags (v : Word) : (s.setPc v).flags = s.flags := rfl
@[simp] theorem State.setPc_stopped (v : Word) : (s.setPc v).stopped = s.stopped := rfl
@[simp] theorem State.setPc_waiting (v : Word) : (s.setPc v).waiting = s.waiting := rfl
@[simp] theorem State.setPc_pending (v : Word) : (s.setPc v).pending = s.pending := rfl
@[simp] theorem State.setPc_cycles (v : Word) : (s.setPc v).cycles = s.cycles := rfl
@[simp] theorem State.setPc_mem (v : Word) : (s.setPc v).mem = s.mem := rfl
@[simp] theorem State.setPc_intercepts (v : Word) : (s.setPc v).intercepts = s.intercepts := rfl
@[simp] theorem State.setPc_hookCalls (v : Word) : (s.setPc v).hookCalls = s.hookCalls := rfl
@[simp] theorem State.setPc_returned (v : Word) : (s.setPc v).returned = s.returned := rfl
@[simp] theorem State.setPc_hookAt (v : Word) (b : Word) : (s.setPc v).hookAt b = s.hookAt b := rfl
@[simp] theorem State.setPc_byteAt (v : Word) (b : Word) : (s.setPc v).byteAt b = s.byteAt b := rfl

/-! `setOldPc` -/
@[simp] theorem State.setOldPc_pc (v : Word) : (s.setOldPc v).pc = s.pc := rfl
@[simp] theorem State.setOldPc_oldPc (v : Word) : (s.setOldPc v).oldPc = v := rfl
@[simp] theorem State.setOldPc_a (v : Word) : (s.setOldPc v).a = s.a := rfl
@[simp] theorem State.setOldPc_x (v : Word) : (s.setOldPc v).x = s.x := rfl
@[simp] theorem State.setOldPc_y (v : Word) : (s.setOldPc v).y = s.y := rfl
@[simp] theorem State.setOldPc_sp (v : Word) : (s.setOldPc v).sp = s.sp := rfl
@[simp] theorem State.setOldPc_flags (v : Word) : (s.setOldPc v).flags = s.flags := rfl
@[simp] theorem State.setOldPc_stopped (v : Word) : (s.setOldPc v).stopped = s.stopped := rfl
@[simp] theorem State.setOldPc_waiting (v : Word) : (s.setOldPc v).waiting = s.waiting := rfl
@[simp] theorem State.setOldPc_pending (v : Word) : (s.setOldPc v).pending = s.pending := rfl
@[simp] theorem State.setOldPc_cycles (v : Word) : (s.setOldPc v).cycles = s.cycles := rfl
@[simp] theorem State.setOldPc_mem (v : Word) : (s.setOldPc v).mem = s.mem := rfl
@[simp] theorem State.setOldPc_intercepts (v : Word) : (s.setOldPc v).intercepts = s.intercepts := rfl
@[simp] theorem State.setOldPc_hookCalls (v : Word) : (s.setOldPc v).hookCalls = s.hookCalls := rfl
@[simp] theorem State.setOldPc_returned (v : Word) : (s.setOldPc v).returned = s.returned := rfl
@[simp] theorem State.setOldPc_hookAt (v : Word) (b : Word) : (s.setOldPc v).hookAt b = s.hookAt b := rfl
@[simp] theorem State.setOldPc_byteAt (v : Word) (b : Word) : (s.setOldPc v).byteAt b = s.byteAt b := rfl

/-! `setA` -/
@[simp] theorem State.setA_pc (v : Byte) : (s.setA v).pc = s.pc := rfl
@[simp] theorem State.setA_oldPc (v : Byte) : (s.setA v).oldPc = s.oldPc := rfl
@[simp] theorem State.setA_a (v : Byte) : (s.setA v).a = v := rfl
@[simp] theorem State.setA_x (v : Byte) : (s.setA v).x = s.x := rfl
@[simp] theorem State.setA_y (v : Byte) : (s.setA v).y = s.y := rfl
@[simp] theorem State.setA_sp (v : Byte) : (s.setA v).sp = s.sp := rfl
@[simp] theorem State.setA_flags (v : Byte) : (s.setA v).flags = s.flags := rfl
@[simp] theorem State.setA_stopped (v : Byte) : (s.setA v).stopped = s.stopped := rfl
@[simp] theorem State.setA_waiting (v : Byte) : (s.setA v).waiting = s.waiting := rfl
@[simp] theorem State.setA_pending (v : Byte) : (s.setA v).pending = s.pending := rfl
@[simp] theorem State.setA_cycles (v : Byte) : (s.setA v).cycles = s.cycles := rfl
@[simp] theorem State.setA_mem (v : Byte) : (s.setA v).mem = s.mem := rfl
@[simp] theorem State.setA_intercepts (v : Byte) : (s.setA v).intercepts = s.intercepts := rfl
@[simp] theorem State.setA_hookCalls (v : Byte) : (s.setA v).hookCalls = s.hookCalls := rfl
@[simp] theorem State.setA_returned (v : Byte) : (s.setA v).returned = s.returned := rfl
@[simp] theorem State.setA_hookAt (v : Byte) (b : Word) : (s.setA v).hookAt b = s.hookAt b := rfl
@[simp] theorem State.setA_byteAt (v : Byte) (b : Word) : (s.setA v).byteAt b = s.byteAt b := rfl

/-! `setX` -/
@[simp] theorem State.setX_pc (v : Byte) : (s.setX v).pc = s.pc := rfl
@[simp] theorem State.setX_oldPc (v : Byte) : (s.setX v).oldPc = s.oldPc := rfl
@[simp] theorem State.setX_a (v : Byte) : (s.setX v).a = s.a := rfl
@[simp] theorem State.setX_x (v : Byte) : (s.setX v).x = v := rfl
@[simp] theorem State.setX_y (v : Byte) : (s.setX v).y = s.y := rfl
@[simp] theorem State.setX_sp (v : Byte) : (s.setX v).sp = s.sp := rfl
@[simp] theorem State.setX_flags (v : Byte) : (s.setX v).flags = s.flags := rfl
@[simp] theorem State.setX_stopped (v : Byte) : (s.setX v).stopped = s.stopped := rfl
@[simp] theorem State.setX_waiting (v : Byte) : (s.setX v).waiting = s.waiting := rfl
@[simp] theorem State.setX_pending (v : Byte) : (s.setX v).pending = s.pending := rfl
@[simp] theorem State.setX_cycles (v : Byte) : (s.setX v).cycles = s.cycles := rfl
@[simp] theorem State.setX_mem (v : Byte) : (s.setX v).mem = s.mem := rfl
@[simp] theorem State.setX_intercepts (v : Byte) : (s.setX v).intercepts = s.intercepts := rfl
@[simp] theorem State.setX_hookCalls (v : Byte) : (s.setX v).hookCalls = s.hookCalls := rfl
@[simp] theorem State.setX_returned (v : Byte) : (s.setX v).returned = s.returned := rfl
@[simp] theorem State.setX_hookAt (v : Byte) (b : Word) : (s.setX v).hookAt b = s.hookAt b := rfl
@[simp] theorem State.setX_byteAt (v : Byte) (b : Word) : (s.setX v).byteAt b = s.byteAt b := rfl

/-! `setY` -/
@[simp] theorem State.setY_pc (v : Byte) : (s.setY v).pc = s.pc := rfl
@[simp] theorem State.setY_oldPc (v : Byte) : (s.setY v).oldPc = s.oldPc := rfl
@[simp] theorem State.setY_a (v : Byte) : (s.setY v).a = s.a := rfl
@[simp] theorem State.setY_x (v : Byte) : (s.setY v).x = s.x := rfl
@[simp] theorem State.setY_y (v : Byte) : (s.setY v).y = v := rfl
@[simp] theorem State.setY_sp (v : Byte) : (s.setY v).sp = s.sp := rfl
@[simp] theorem State.setY_flags (v : Byte) : (s.setY v).flags = s.flags := rfl
@[simp] theorem State.setY_stopped (v : Byte) : (s.setY v).stopped = s.stopped := rfl
@[simp] theorem State.setY_waiting (v : Byte) : (s.setY v).waiting = s.waiting := rfl
@[simp] theorem State.setY_pending (v : Byte) : (s.setY v).pending = s.pending := rfl
@[simp] theorem State.setY_cycles (v : Byte) : (s.setY v).cycles = s.cycles := rfl
@[simp] theorem State.setY_mem (v : Byte) : (s.setY v).mem = s.mem := rfl
@[simp] theorem State.setY_intercepts (v : Byte) : (s.setY v).intercepts = s.intercepts := rfl
@[simp] theorem State.setY_hookCalls (v : Byte) : (s.setY v).hookCalls = s.hookCalls := rfl
@[simp] theorem State.setY_returned (v : Byte) : (s.setY v).returned = s.returned := rfl
@[simp] theorem State.setY_hookAt (v : Byte) (b : Word) : (s.setY v).hookAt b = s.hookAt b := rfl
@[simp] theorem State.setY_byteAt (v : Byte) (b : Word) : (s.setY v).byteAt b = s.byteAt b := rfl

/-! `setSp` -/
@[simp] theorem State.setSp_pc (v : Byte) : (s.setSp v).pc = s.pc := rfl
@[simp] theorem State.setSp_oldPc (v : Byte) : (s.setSp v).oldPc = s.oldPc := rfl
@[simp] theorem State.setSp_a (v : Byte) : (s.setSp v).a = s.a := rfl
@[simp] theorem State.setSp_x (v : Byte) : (s.setSp v).x = s.x := rfl
@[simp] theorem State.setSp_y (v : Byte) : (s.setSp v).y = s.y := rfl
@[simp] theorem State.setSp_sp (v : Byte) : (s.setSp v).sp = v := rfl
@[simp] theorem State.setSp_flags (v : Byte) : (s.setSp v).flags = s.flags := rfl
@[simp] theorem State.setSp_stopped (v : Byte) : (s.setSp v).stopped = s.stopped := rfl
@[simp] theorem State.setSp_waiting (v : Byte) : (s.setSp v).waiting = s.waiting := rfl
@[simp] theorem State.setSp_pending (v : Byte) : (s.setSp v).pending = s.pending := rfl
@[simp] theorem State.setSp_cycles (v : Byte) : (s.setSp v).cycles = s.cycles := rfl
@[simp] theorem State.setSp_mem (v : Byte) : (s.setSp v).mem = s.mem := rfl
@[simp] theorem State.setSp_intercepts (v : Byte) : (s.setSp v).intercepts = s.intercepts := rfl
@[simp] theorem State.setSp_hookCalls (v : Byte) : (s.setSp v).hookCalls = s.hookCalls := rfl
@[simp] theorem State.setSp_returned (v : Byte) : (s.setSp v).returned = s.returned := rfl
@[simp] theorem State.setSp_hookAt (v : Byte) (b : Word) : (s.setSp v).hookAt b = s.hookAt b := rfl
@[simp] theorem State.setSp_byteAt (v : Byte) (b : Word) : (s.setSp v).byteAt b = s.byteAt b := rfl

/-! `setFlags` -/
@[simp] theorem State.setFlags_pc (v : Flags) : (s.setFlags v).pc = s.pc := rfl
@[simp] theorem State.setFlags_oldPc (v : Flags) : (s.setFlags v).oldPc = s.oldPc := rfl
@[simp] theorem State.setFlags_a (v : Flags) : (s.setFlags v).a = s.a := rfl
@[simp] theorem State.setFlags_x (v : Flags) : (s.setFlags v).x = s.x := rfl
@[simp] theorem State.setFlags_y (v : Flags) : (s.setFlags v).y = s.y := rfl
@[simp] theorem State.setFlags_sp (v : Flags) : (s.setFlags v).sp = s.sp := rfl
@[simp] theorem State.setFlags_flags (v : Flags) : (s.setFlags v).flags = v := rfl
@[simp] theorem State.setFlags_stopped (v : Flags) : (s.setFlags v).stopped = s.stopped := rfl
@[simp] theorem State.setFlags_waiting (v : Flags) : (s.setFlags v).waiting = s.waiting := rfl
@[simp] theorem State.setFlags_pending (v : Flags) : (s.setFlags v).pending = s.pending := rfl
@[simp] theorem State.setFlags_cycles (v : Flags) : (s.setFlags v).cycles = s.cycles := rfl
@[simp] theorem State.setFlags_mem (v : Flags) : (s.setFlags v).mem = s.mem := rfl
@[simp] theorem State.setFlags_intercepts (v : Flags) : (s.setFlags v).intercepts = s.intercepts := rfl
@[simp] theorem State.setFlags_hookCalls (v : Flags) : (s.setFlags v).hookCalls = s.hookCalls := rfl
@[simp] theorem State.setFlags_returned (v : Flags) : (s.setFlags v).returned = s.returned := rfl
@[simp] theorem State.setFlags_hookAt (v : Flags) (b : Word) : (s.setFlags v).hookAt b = s.hookAt b := rfl
@[simp] theorem State.setFlags_byteAt (v : Flags) (b : Word) : (s.setFlags v).byteAt b = s.byteAt b := rfl

/-! `setStopped` -/
@[simp] theorem State.setStopped_pc (v : Bool) : (s.setStopped v).pc = s.pc := rfl
@[simp] theorem State.setStopped_oldPc (v : Bool) : (s.setStopped v).oldPc = s.oldPc := rfl
@[simp] theorem State.setStopped_a (v : Bool) : (s.setStopped v).a = s.a := rfl
@[simp] theorem State.setStopped_x (v : Bool) : (s.setStopped v).x = s.x := rfl
@[simp] theorem State.setStopped_y (v : Bool) : (s.setStopped v).y = s.y := rfl
@[simp] theorem State.setStopped_sp (v : Bool) : (s.setStopped v).sp = s.sp := rfl
@[simp] theorem State.setStopped_flags (v : Bool) : (s.setStopped v).flags = s.flags := rfl
@[simp] theorem State.setStopped_stopped (v : Bool) : (s.setStopped v).stopped = v := rfl
@[simp] theorem State.setStopped_waiting (v : Bool) : (s.setStopped v).waiting = s.waiting := rfl
@[simp] theorem State.setStopped_pending (v : Bool) : (s.setStopped v).pending = s.pending := rfl
@[simp] theorem State.setStopped_cycles (v : Bool) : (s.setStopped v).cycles = s.cycles := rfl
@[simp] theorem State.setStopped_mem (v : Bool) : (s.setStopped v).mem = s.mem := rfl
@[simp] theorem State.setStopped_intercepts (v : Bool) : (s.setStopped v).intercepts = s.intercepts := rfl
@[simp] theorem State.setStopped_hookCalls (v : Bool) : (s.setStopped v).hookCalls = s.hookCalls := rfl
@[simp] theorem State.setStopped_returned (v : Bool) : (s.setStopped v).returned = s.returned := rfl
@[simp] theorem State.setStopped_hookAt (v : Bool) (b : Word) : (s.setStopped v).hookAt b = s.hookAt b := rfl
@[simp] theorem State.setStopped_byteAt (v : Bool) (b : Word) : (s.setStopped v).byteAt b = s.byteAt b := rfl

/-! `setWaiting` -/
@[simp] theorem State.setWaiting_pc (v : Bool) : (s.setWaiting v).pc = s.pc := rfl
@[simp] theorem State.setWaiting_oldPc (v : Bool) : (s.setWaiting v).oldPc = s.oldPc := rfl
@[simp] theorem State.setWaiting_a (v : Bool) : (s.setWaiting v).a = s.a := rfl
@[simp] theorem State.setWaiting_x (v : Bool) : (s.setWaiting v).x = s.x := rfl
@[simp] theorem State.setWaiting_y (v : Bool) : (s.setWaiting v).y = s.y := rfl
@[simp] theorem State.setWaiting_sp (v : Bool) : (s.setWaiting v).sp = s.sp := rfl
@[simp] theorem State.setWaiting_flags (v : Bool) : (s.setWaiting v).flags = s.flags := rfl
@[simp] theorem State.setWaiting_stopped (v : Bool) : (s.setWaiting v).stopped = s.stopped := rfl
@[simp] theorem State.setWaiting_waiting (v : Bool) : (s.setWaiting v).waiting = v := rfl
@[simp] theorem State.setWaiting_pending (v : Bool) : (s.setWaiting v).pending = s.pending := rfl
@[simp] theorem State.setWaiting_cycles (v : Bool) : (s.setWaiting v).cycles = s.cycles := rfl
@[simp] theorem State.setWaiting_mem (v : Bool) : (s.setWaiting v).mem = s.mem := rfl
@[simp] theorem State.setWaiting_intercepts (v : Bool) : (s.setWaiting v).intercepts = s.intercepts := rfl
@[simp] theorem State.setWaiting_hookCalls (v : Bool) : (s.setWaiting v).hookCalls = s.hookCalls := rfl
@[simp] theorem State.setWaiting_returned (v : Bool) : (s.setWaiting v).returned = s.returned := rfl
@[simp] theorem State.setWaiting_hookAt (v : Bool) (b : Word) : (s.setWaiting v).hookAt b = s.hookAt b := rfl
@[simp] theorem State.setWaiting_byteAt (v : Bool) (b : Word) : (s.setWaiting v).byteAt b = s.byteAt b := rfl

/-! `setPending` -/
@[simp] theorem State.setPending_pc (v : List SourceId) : (s.setPending v).pc = s.pc := rfl
@[simp] theorem State.setPending_oldPc (v : List SourceId) : (s.setPending v).oldPc = s.oldPc := rfl
@[simp] theorem State.setPending_a (v : List SourceId) : (s.setPending v).a = s.a := rfl
@[simp] theorem State.setPending_x (v : List SourceId) : (s.setPending v).x = s.x := rfl
@[simp] theorem State.setPending_y (v : List SourceId) : (s.setPending v).y = s.y := rfl
@[simp] theorem State.setPending_sp (v : List SourceId) : (s.setPending v).sp = s.sp := rfl
@[simp] theorem State.setPending_flags (v : List SourceId) : (s.setPending v).flags = s.flags := rfl
@[simp] theorem State.setPending_stopped (v : List SourceId) : (s.setPending v).stopped = s.stopped := rfl
@[simp] theorem State.setPending_waiting (v : List SourceId) : (s.setPending v).waiting = s.waiting := rfl
@[simp] theorem State.setPending_pending (v : List SourceId) : (s.setPending v).pending = v := rfl
@[simp] theorem State.setPending_cycles (v : List SourceId) : (s.setPending v).cycles = s.cycles := rfl
@[simp] theorem State.setPending_mem (v : List SourceId) : (s.setPending v).mem = s.mem := rfl
@[simp] theorem State.setPending_intercepts (v : List SourceId) : (s.setPending v).intercepts = s.intercepts := rfl
@[simp] theorem State.setPending_hookCalls (v : List SourceId) : (s.setPending v).hookCalls = s.hookCalls := rfl
@[simp] theorem State.setPending_returned (v : List SourceId) : (s.setPending v).returned = s.returned := rfl
@[simp] theorem State.setPending_hookAt (v : List SourceId) (b : Word) : (s.setPending v).hookAt b = s.hookAt b := rfl
@[simp] theorem State.setPending_byteAt (v : List SourceId) (b : Word) : (s.setPending v).byteAt b = s.byteAt b := rfl

/-! `setCycles` -/
@[simp] theorem State.setCycles_pc (v : Nat) : (s.setCycles v).pc = s.pc := rfl
@[simp] theorem State.setCycles_oldPc (v : Nat) : (s.setCycles v).oldPc = s.oldPc := rfl
@[simp] theorem State.setCycles_a (v : Nat) : (s.setCycles v).a = s.a := rfl
@[simp] theorem State.setCycles_x (v : Nat) : (s.setCycles v).x = s.x := rfl
@[simp] theorem State.setCycles_y (v : Nat) : (s.setCycles v).y = s.y := rfl
@[simp] theorem State.setCycles_sp (v : Nat) : (s.setCycles v).sp = s.sp := rfl
@[simp] theorem State.setCycles_flags (v : Nat) : (s.setCycles v).flags = s.flags := rfl
@[simp] theorem State.setCycles_stopped (v : Nat) : (s.setCycles v).stopped = s.stopped := rfl
@[simp] theorem State.setCycles_waiting (v : Nat) : (s.setCycles v).waiting = s.waiting := rfl
@[simp] theorem State.setCycles_pending (v : Nat) : (s.setCycles v).pending = s.pending := rfl
@[simp] theorem State.setCycles_cycles (v : Nat) : (s.setCycles v).cycles = v := rfl
@[simp] theorem State.setCycles_mem (v : Nat) : (s.setCycles v).mem = s.mem := rfl
@[simp] theorem State.setCycles_intercepts (v : Nat) : (s.setCycles v).intercepts = s.intercepts := rfl
@[simp] theorem State.setCycles_hookCalls (v : Nat) : (s.setCycles v).hookCalls = s.hookCalls := rfl
@[simp] theorem State.setCycles_returned (v : Nat) : (s.setCycles v).returned = s.returned := rfl
@[simp] theorem State.setCycles_hookAt (v : Nat) (b : Word) : (s.setCycles v).hookAt b = s.hookAt b := rfl
@[simp] theorem State.setCycles_byteAt (v : Nat) (b : Word) : (s.setCycles v).byteAt b = s.byteAt b := rfl

/-! `setMem` -/
@[simp] theorem State.setMem_pc (v : List Host.Cell) : (s.setMem v).pc = s.pc := rfl
@[simp] theorem State.setMem_oldPc (v : List Host.Cell) : (s.setMem v).oldPc = s.oldPc := rfl
@[simp] theorem State.setMem_a (v : List Host.Cell) : (s.setMem v).a = s.a := rfl
@[simp] theorem State.setMem_x (v : List Host.Cell) : (s.setMem v).x = s.x := rfl
@[simp] theorem State.setMem_y (v : List Host.Cell) : (s.setMem v).y = s.y := rfl
@[simp] theorem State.setMem_sp (v : List Host.Cell) : (s.setMem v).sp = s.sp := rfl
@[simp] theorem State.setMem_flags (v : List Host.Cell) : (s.setMem v).flags = s.flags := rfl
@[simp] theorem State.setMem_stopped (v : List Host.Cell) : (s.setMem v).stopped = s.stopped := rfl
@[simp] theorem State.setMem_waiting (v : List Host.Cell) : (s.setMem v).waiting = s.waiting := rfl
@[simp] theorem State.setMem_pending (v : List Host.Cell) : (s.setMem v).pending = s.pending := rfl
@[simp] theorem State.setMem_cycles (v : List Host.Cell) : (s.setMem v).cycles = s.cycles := rfl
@[simp] theorem State.setMem_mem (v : List Host.Cell) : (s.setMem v).mem = v := rfl
@[simp] theorem State.setMem_intercepts (v : List Host.Cell) : (s.setMem v).intercepts = s.intercepts := rfl
@[simp] theorem State.setMem_hookCalls (v : List Host.Cell) : (s.setMem v).hookCalls = s.hookCalls := rfl
@[simp] theorem State.setMem_returned (v : List Host.Cell) : (s.setMem v).returned = s.returned := rfl
@[simp] theorem State.setMem_hookAt (v : List Host.Cell) (b : Word) : (s.setMem v).hookAt b = s.hookAt b := rfl

/-! `setIntercepts` -/
@[simp] theorem State.setIntercepts_pc (v : List (Nat × Hook)) : (s.setIntercepts v).pc = s.pc := rfl
@[simp] theorem State.setIntercepts_oldPc (v : List (Nat × Hook)) : (s.setIntercepts v).oldPc = s.oldPc := rfl
@[simp] theorem State.setIntercepts_a (v : List (Nat × Hook)) : (s.setIntercepts v).a = s.a := rfl
@[simp] theorem State.setIntercepts_x (v : List (Nat × Hook)) : (s.setIntercepts v).x = s.x := rfl
@[simp] theorem State.setIntercepts_y (v : List (Nat × Hook)) : (s.setIntercepts v).y = s.y := rfl
@[simp] theorem State.setIntercepts_sp (v : List (Nat × Hook)) : (s.setIntercepts v).sp = s.sp := rfl
@[simp] theorem State.setIntercepts_flags (v : List (Nat × Hook)) : (s.setIntercepts v).flags = s.flags := rfl
@[simp] theorem State.setIntercepts_stopped (v : List (Nat × Hook)) : (s.setIntercepts v).stopped = s.stopped := rfl
@[simp] theorem State.setIntercepts_waiting (v : List (Nat × Hook)) : (s.setIntercepts v).waiting = s.waiting := rfl
@[simp] theorem State.setIntercepts_pending (v : List (Nat × Hook)) : (s.setIntercepts v).pending = s.pending := rfl
@[simp] theorem State.setIntercepts_cycles (v : List (Nat × Hook)) : (s.setIntercepts v).cycles = s.cycles := rfl
@[simp] theorem State.setIntercepts_mem (v : List (Nat × Hook)) : (s.setIntercepts v).mem = s.mem := rfl
@[simp] theorem State.setIntercepts_intercepts (v : List (Nat × Hook)) : (s.setIntercepts v).intercepts = v := rfl
@[simp] theorem State.setIntercepts_hookCalls (v : List (Nat × Hook)) : (s.setIntercepts v).hookCalls = s.hookCalls := rfl
@[simp] theorem State.setIntercepts_returned (v : List (Nat × Hook)) : (s.setIntercepts v).returned = s.returned := rfl
@[simp] theorem State.setIntercepts_byteAt (v : List (Nat × Hook)) (b : Word) : (s.setIntercepts v).byteAt b = s.byteAt b := rfl

/-! `setHookCalls` -/
@[simp] theorem State.setHookCalls_pc (v : Nat) : (s.setHookCalls v).pc = s.pc := rfl
@[simp] theorem State.setHookCalls_oldPc (v : Nat) : (s.setHookCalls v).oldPc = s.oldPc := rfl
@[simp] theorem State.setHookCalls_a (v : Nat) : (s.setHookCalls v).a = s.a := rfl
@[simp] theorem State.setHookCalls_x (v : Nat) : (s.setHookCalls v).x = s.x := rfl
@[simp] theorem State.setHookCalls_y (v : Nat) : (s.setHookCalls v).y = s.y := rfl
@[simp] theorem State.setHookCalls_sp (v : Nat) : (s.setHookCalls v).sp = s.sp := rfl
@[simp] theorem State.setHookCalls_flags (v : Nat) : (s.setHookCalls v).flags = s.flags := rfl
@[simp] theorem State.setHookCalls_stopped (v : Nat) : (s.setHookCalls v).stopped = s.stopped := rfl
@[simp] theorem State.setHookCalls_waiting (v : Nat) : (s.setHookCalls v).waiting = s.waiting := rfl
@[simp] theorem State.setHookCalls_pending (v : Nat) : (s.setHookCalls v).pending = s.pending := rfl
@[simp] theorem State.setHookCalls_cycles (v : Nat) : (s.setHookCalls v).cycles = s.cycles := rfl
@[simp] theorem State.setHookCalls_mem (v : Nat) : (s.setHookCalls v).mem = s.mem := rfl
@[simp] theorem State.setHookCalls_intercepts (v : Nat) : (s.setHookCalls v).intercepts = s.intercepts := rfl
@[simp] theorem State.setHookCalls_hookCalls (v : Nat) : (s.setHookCalls v).hookCalls = v := rfl
@[simp] theorem State.setHookCalls_returned (v : Nat) : (s.setHookCalls v).returned = s.returned := rfl
@[simp] theorem State.setHookCalls_hookAt (v : Nat) (b : Word) : (s.setHookCalls v).hookAt b = s.hookAt b := rfl
@[simp] theorem State.setHookCalls_byteAt (v : Nat) (b : Word) : (s.setHookCalls v).byteAt b = s.byteAt b := rfl

/-! `setReturned` -/
@[simp] theorem State.setReturned_pc (v : Nat) : (s.setReturned v).pc = s.pc := rfl
@[simp] theorem State.setReturned_oldPc (v : Nat) : (s.setReturned v).oldPc = s.oldPc := rfl
@[simp] theorem State.setReturned_a (v : Nat) : (s.setReturned v).a = s.a := rfl
@[simp] theorem State.setReturned_x (v : Nat) : (s.setReturned v).x = s.x := rfl
@[simp] theorem State.setReturned_y (v : Nat) : (s.setReturned v).y = s.y := rfl
@[simp] theorem State.setReturned_sp (v : Nat) : (s.setReturned v).sp = s.sp := rfl
@[simp] theorem State.setReturned_flags (v : Nat) : (s.setReturned v).flags = s.flags := rfl
@[simp] theorem State.setReturned_stopped (v : Nat) : (s.setReturned v).stopped = s.stopped := rfl
@[simp] theorem State.setReturned_waiting (v : Nat) : (s.setReturned v).waiting = s.waiting := rfl
@[simp] theorem State.setReturned_pending (v : Nat) : (s.setReturned v).pending = s.pending := rfl
@[simp] theorem State.setReturned_cycles (v : Nat) : (s.setReturned v).cycles = s.cycles := rfl
@[simp] theorem State.setReturned_mem (v : Nat) : (s.setReturned v).mem = s.mem := rfl
@[simp] theorem State.setReturned_intercepts (v : Nat) : (s.setReturned v).intercepts = s.intercepts := rfl
@[simp] theorem State.setReturned_hookCalls (v : Nat) : (s.setReturned v).hookCalls = s.hookCalls := rfl
@[simp] theorem State.setReturned_returned (v : Nat) : (s.setReturned v).returned = v := rfl
@[simp] theorem State.setReturned_hookAt (v : Nat) (b : Word) : (s.setReturned v).hookAt b = s.hookAt b := rfl
@[simp] theorem State.setReturned_byteAt (v : Nat) (b : Word) : (s.setReturned v).byteAt b = s.byteAt b := rfl

/-! `addCycles` -/
@[simp] theorem State.addCycles_pc (k : Nat) : (s.addCycles k).pc = s.pc := rfl
@[simp] theorem State.addCycles_oldPc (k : Nat) : (s.addCycles k).oldPc = s.oldPc := rfl
@[simp] theorem State.addCycles_a (k : Nat) : (s.addCycles k).a = s.a := rfl
@[simp] theorem State.addCycles_x (k : Nat) : (s.addCycles k).x = s.x := rfl
@[simp] theorem State.addCycles_y (k : Nat) : (s.addCycles k).y = s.y := rfl
@[simp] theorem State.addCycles_sp (k : Nat) : (s.addCycles k).sp = s.sp := rfl
@[simp] theorem State.addCycles_flags (k : Nat) : (s.addCycles k).flags = s.flags := rfl
@[simp] theorem State.addCycles_stopped (k : Nat) : (s.addCycles k).stopped = s.stopped := rfl
@[simp] theorem State.addCycles_waiting (k : Nat) : (s.addCycles k).waiting = s.waiting := rfl
@[simp] theorem State.addCycles_pending (k : Nat) : (s.addCycles k).pending = s.pending := rfl
@[simp] theorem State.addCycles_cycles (k : Nat) : (s.addCycles k).cycles = s.cycles + k := rfl
@[simp] theorem State.addCycles_mem (k : Nat) : (s.addCycles k).mem = s.mem := rfl
@[simp] theorem State.addCycles_intercepts (k : Nat) : (s.addCycles k).intercepts = s.intercepts := rfl
@[simp] theorem State.addCycles_hookCalls (k : Nat) : (s.addCycles k).hookCalls = s.hookCalls := rfl
@[simp] theorem State.addCycles_returned (k : Nat) : (s.addCycles k).returned = s.returned := rfl
@[simp] theorem State.addCycles_hookAt (k : Nat) (b : Word) : (s.addCycles k).hookAt b = s.hookAt b := rfl
@[simp] theorem State.addCycles_byteAt (k : Nat) (b : Word) : (s.addCycles k).byteAt b = s.byteAt b := rfl

/-! `setNZ` -/
@[simp] theorem State.setNZ_pc (v : Byte) : (s.setNZ v).pc = s.pc := rfl
@[simp] theorem State.setNZ_oldPc (v : Byte) : (s.setNZ v).oldPc = s.oldPc := rfl
@[simp] theorem State.setNZ_a (v : Byte) : (s.setNZ v).a = s.a := rfl
@[simp] theorem State.setNZ_x (v : Byte) : (s.setNZ v).x = s.x := rfl
@[simp] theorem State.setNZ_y (v : Byte) : (s.setNZ v).y = s.y := rfl
@[simp] theorem State.setNZ_sp (v : Byte) : (s.setNZ v).sp = s.sp := rfl
@[simp] theorem State.setNZ_flags (v : Byte) : (s.setNZ v).flags = s.flags.setNZ v := rfl
@[simp] theorem State.setNZ_stopped (v : Byte) : (s.setNZ v).stopped = s.stopped := rfl
@[simp] theorem State.setNZ_waiting (v : Byte) : (s.setNZ v).waiting = s.waiting := rfl
@[simp] theorem State.setNZ_pending (v : Byte) : (s.setNZ v).pending = s.pending := rfl
@[simp] theorem State.setNZ_cycles (v : Byte) : (s.setNZ v).cycles = s.cycles := rfl
@[simp] theorem State.setNZ_mem (v : Byte) : (s.setNZ v).mem = s.mem := rfl
@[simp] theorem State.setNZ_intercepts (v : Byte) : (s.setNZ v).intercepts = s.intercepts := rfl
@[simp] theorem State.setNZ_hookCalls (v : Byte) : (s.setNZ v).hookCalls = s.hookCalls := rfl
@[simp] theorem State.setNZ_returned (v : Byte) : (s.setNZ v).returned = s.returned := rfl
@[simp] theorem State.setNZ_hookAt (v : Byte) (b : Word) : (s.setNZ v).hookAt b = s.hookAt b := rfl
@[simp] theorem State.setNZ_byteAt (v : Byte) (b : Word) : (s.setNZ v).byteAt b = s.byteAt b := rfl

/-! `putByte` -/
@[simp] theorem State.putByte_pc (b : Word) (v : Byte) : (s.putByte b v).pc = s.pc := rfl
@[simp] theorem State.putByte_oldPc (b : Word) (v : Byte) : (s.putByte b v).oldPc = s.oldPc := rfl
@[simp] theorem State.putByte_a (b : Word) (v : Byte) : (s.putByte b v).a = s.a := rfl
@[simp] theorem State.putByte_x (b : Word) (v : Byte) : (s.putByte b v).x = s.x := rfl
@[simp] theorem State.putByte_y (b : Word) (v : Byte) : (s.putByte b v).y = s.y := rfl
@[simp] theorem State.putByte_sp (b : Word) (v : Byte) : (s.putByte b v).sp = s.sp := rfl
@[simp] theorem State.putByte_flags (b : Word) (v : Byte) : (s.putByte b v).flags = s.flags := rfl
@[simp] theorem State.putByte_stopped (b : Word) (v : Byte) : (s.putByte b v).stopped = s.stopped := rfl
@[simp] theorem State.putByte_waiting (b : Word) (v : Byte) : (s.putByte b v).waiting = s.waiting := rfl
@[simp] theorem State.putByte_pending (b : Word) (v : Byte) : (s.putByte b v).pending = s.pending := rfl
@[simp] theorem State.putByte_cycles (b : Word) (v : Byte) : (s.putByte b v).cycles = s.cycles := rfl
@[simp] theorem State.putByte_mem (b : Word) (v : Byte) : (s.putByte b v).mem = memPut s.mem b.toNat v := rfl
@[simp] theorem State.putByte_intercepts (b : Word) (v : Byte) : (s.putByte b v).intercepts = s.intercepts := rfl
@[simp] theorem State.putByte_hookCalls (b : Word) (v : Byte) : (s.putByte b v).hookCalls = s.hookCalls := rfl
@[simp] theorem State.putByte_returned (b : Word) (v : Byte) : (s.putByte b v).returned = s.returned := rfl
@[simp] theorem State.putByte_hookAt (b c : Word) (v : Byte) : (s.putByte b v).hookAt c = s.hookAt c := rfl

end

/-! The flags each helper writes (40_engine_and_addressing.md R122, 42_arithmetic.md R160, R164). -/

section
variable (f : Flags) (u m : Byte) (r : ArithResult) (k : Bool)

@[simp] theorem Flags.setNZ_n : (f.setNZ u).n = bitAt u 7 := rfl
@[simp] theorem Flags.setNZ_v : (f.setNZ u).v = f.v := rfl
@[simp] theorem Flags.setNZ_d : (f.setNZ u).d = f.d := rfl
@[simp] theorem Flags.setNZ_i : (f.setNZ u).i = f.i := rfl
@[simp] theorem Flags.setNZ_z : (f.setNZ u).z = decide (u = 0#8) := rfl
@[simp] theorem Flags.setNZ_c : (f.setNZ u).c = f.c := rfl
@[simp] theorem Flags.setArith_n : (f.setArith r).n = r.n := rfl
@[simp] theorem Flags.setArith_v : (f.setArith r).v = r.v := rfl
@[simp] theorem Flags.setArith_d : (f.setArith r).d = f.d := rfl
@[simp] theorem Flags.setArith_i : (f.setArith r).i = f.i := rfl
@[simp] theorem Flags.setArith_z : (f.setArith r).z = r.z := rfl
@[simp] theorem Flags.setArith_c : (f.setArith r).c = r.c := rfl
@[simp] theorem Flags.setCompare_v : (f.setCompare u m).v = f.v := rfl
@[simp] theorem Flags.setCompare_d : (f.setCompare u m).d = f.d := rfl
@[simp] theorem Flags.setCompare_i : (f.setCompare u m).i = f.i := rfl
@[simp] theorem Flags.setTest_n : (f.setTest u m).n = f.n := rfl
@[simp] theorem Flags.setTest_v : (f.setTest u m).v = f.v := rfl
@[simp] theorem Flags.setTest_d : (f.setTest u m).d = f.d := rfl
@[simp] theorem Flags.setTest_i : (f.setTest u m).i = f.i := rfl
@[simp] theorem Flags.setTest_z : (f.setTest u m).z = decide (u &&& m = 0#8) := rfl
@[simp] theorem Flags.setTest_c : (f.setTest u m).c = f.c := rfl
@[simp] theorem Flags.setShift_n : (f.setShift u k).n = bitAt u 7 := rfl
@[simp] theorem Flags.setShift_v : (f.setShift u k).v = f.v := rfl
@[simp] theorem Flags.setShift_d : (f.setShift u k).d = f.d := rfl
@[simp] theorem Flags.setShift_i : (f.setShift u k).i = f.i := rfl
@[simp] theorem Flags.setShift_z : (f.setShift u k).z = decide (u = 0#8) := rfl
@[simp] theorem Flags.setShift_c : (f.setShift u k).c = k := rfl
@[simp] theorem Flags.enterInterrupt_n : f.enterInterrupt.n = f.n := rfl
@[simp] theorem Flags.enterInterrupt_v : f.enterInterrupt.v = f.v := rfl
@[simp] theorem Flags.enterInterrupt_d : f.enterInterrupt.d = false := rfl
@[simp] theorem Flags.enterInterrupt_i : f.enterInterrupt.i = true := rfl
@[simp] theorem Flags.enterInterrupt_z : f.enterInterrupt.z = f.z := rfl
@[simp] theorem Flags.enterInterrupt_c : f.enterInterrupt.c = f.c := rfl

end

end Sys2Proof.Machine
end

