-- ==== Sys2Proof/Laws/Memory.lean ====
section
/-!
SUPPORT. The memory array, the intercept table and the pending set: reading after writing, what a
write leaves alone, and that every operation keeps the canonical form.
-/

namespace Sys2Proof.Machine

/-! ### Memory -/

/-- Below the first listed address nothing is listed. -/
theorem memGet_below {m : List Host.Cell} {lo a : Nat} (h : memWfFrom lo m = true) (ha : a < lo) :
    memGet m a = unlistedByte := by
  induction m generalizing lo with
  | nil => rfl
  | cons c rest ih =>
    obtain ⟨k, b⟩ := c
    simp only [memWfFrom, Bool.and_eq_true, decide_eq_true_eq] at h
    obtain ⟨⟨⟨hk, _⟩, _⟩, hr⟩ := h
    simp only [memGet, show ¬ k = a by omega, if_false]
    exact ih hr (by omega)

/-- A byte written is read back. -/
theorem memGet_memPut_same {m : List Host.Cell} {lo : Nat} (h : memWfFrom lo m = true) (a : Nat) (v : Byte) :
    memGet (memPut m a v) a = v := by
  induction m generalizing lo with
  | nil => by_cases hv : v = unlistedByte <;> simp [memPut, memGet, hv]
  | cons c rest ih =>
    obtain ⟨k, b⟩ := c
    simp only [memWfFrom, Bool.and_eq_true, decide_eq_true_eq] at h
    obtain ⟨_, hr⟩ := h
    by_cases h1 : k < a
    · simp only [memPut, h1, if_true, memGet, show ¬ k = a by omega, if_false]
      exact ih hr
    · by_cases h2 : k = a
      · subst h2
        by_cases hv : v = unlistedByte
        · simp [memPut, hv, memGet_below hr (Nat.lt_succ_self k)]
        · simp [memPut, memGet, hv]
      · by_cases hv : v = unlistedByte
        · simp [memPut, memGet, h1, h2, hv, memGet_below hr (show a < k + 1 by omega)]
        · simp [memPut, memGet, h1, h2, hv]

/-- A write leaves every other address alone. -/
theorem memGet_memPut_other (m : List Host.Cell) {a b : Nat} (v : Byte) (h : b ≠ a) :
    memGet (memPut m a v) b = memGet m b := by
  induction m with
  | nil => by_cases hv : v = unlistedByte <;> simp [memPut, memGet, hv, h.symm]
  | cons c rest ih =>
    obtain ⟨k, u⟩ := c
    by_cases h1 : k < a
    · simp only [memPut, h1, if_true, memGet, ih]
    · by_cases h2 : k = a
      · subst h2
        by_cases hv : v = unlistedByte <;> simp [memPut, memGet, hv, h.symm]
      · by_cases hv : v = unlistedByte <;> simp [memPut, memGet, h1, h2, hv, h.symm]

theorem memWfFrom_weaken {m : List Host.Cell} {lo lo' : Nat} (h : memWfFrom lo m = true) (hl : lo' ≤ lo) :
    memWfFrom lo' m = true := by
  cases m with
  | nil => rfl
  | cons c rest =>
    simp only [memWfFrom, Bool.and_eq_true, decide_eq_true_eq] at h ⊢
    exact ⟨⟨⟨by omega, h.1.1.2⟩, h.1.2⟩, h.2⟩

theorem memWfFrom_memPut {m : List Host.Cell} {lo a : Nat} (v : Byte) (h : memWfFrom lo m = true)
    (hl : lo ≤ a) (ha : a < 65536) : memWfFrom lo (memPut m a v) = true := by
  induction m generalizing lo with
  | nil => by_cases hv : v = unlistedByte <;> simp [memPut, memWfFrom, hv, hl, ha]
  | cons c rest ih =>
    obtain ⟨k, b⟩ := c
    have h' := h
    simp only [memWfFrom, Bool.and_eq_true, decide_eq_true_eq] at h'
    obtain ⟨⟨⟨hk, hk'⟩, hb⟩, hr⟩ := h'
    by_cases h1 : k < a
    · simp only [memPut, h1, if_true, memWfFrom, Bool.and_eq_true, decide_eq_true_eq]
      exact ⟨⟨⟨hk, hk'⟩, hb⟩, ih hr (by omega)⟩
    · by_cases h2 : k = a
      · subst h2
        by_cases hv : v = unlistedByte
        · simpa [memPut, hv] using memWfFrom_weaken hr (by omega)
        · simp [memPut, memWfFrom, hv, hl, ha, hr]
      · by_cases hv : v = unlistedByte
        · simpa [memPut, h1, h2, hv] using h
        · simp [memPut, memWfFrom, h1, h2, hv, hl, ha, hk', hb, hr, show a + 1 ≤ k by omega]

/-- A write at a 16-bit address keeps the canonical form (20_memory.md R50). -/
theorem Memory.wf_memPut {m : List Host.Cell} (a : Word) (v : Byte) (h : Memory.wf m = true) :
    Memory.wf (memPut m a.toNat v) = true :=
  memWfFrom_memPut v h (Nat.zero_le _) a.isLt

/-- Canonical memories that read alike are equal data. -/
theorem memory_ext {m n : List Host.Cell} {lo : Nat} (hm : memWfFrom lo m = true) (hn : memWfFrom lo n = true)
    (h : ∀ a, memGet m a = memGet n a) : m = n := by
  induction m generalizing lo n with
  | nil =>
    cases n with
    | nil => rfl
    | cons c rest =>
      simp only [memWfFrom, Bool.and_eq_true, decide_eq_true_eq] at hn
      exact absurd (by simpa [memGet] using (h c.1).symm) hn.1.2
  | cons c rest ih =>
    obtain ⟨k, b⟩ := c
    have hm' := hm
    simp only [memWfFrom, Bool.and_eq_true, decide_eq_true_eq] at hm'
    obtain ⟨⟨⟨hk, hk'⟩, hb⟩, hr⟩ := hm'
    cases n with
    | nil => exact absurd (by simpa [memGet] using h k) hb
    | cons c' rest' =>
      obtain ⟨k', b'⟩ := c'
      have hn' := hn
      simp only [memWfFrom, Bool.and_eq_true, decide_eq_true_eq] at hn'
      obtain ⟨⟨⟨hj, _⟩, hb'⟩, hr'⟩ := hn'
      have hkk : k = k' := by
        by_contra hne
        rcases Nat.lt_or_gt_of_ne hne with hlt | hlt
        · have := h k
          simp only [memGet, if_true, show ¬ k' = k by omega, if_false] at this
          exact hb (this.trans (memGet_below hr' (by omega)))
        · have := h k'
          simp only [memGet, if_true, show ¬ k = k' by omega, if_false] at this
          exact hb' (this.symm.trans (memGet_below hr (by omega)))
      subst hkk
      have hbb : b = b' := by simpa [memGet] using h k
      subst hbb
      congr 1
      refine ih hr hr' fun a => ?_
      by_cases ha : k = a
      · rw [memGet_below hr (by omega), memGet_below hr' (by omega)]
      · simpa [memGet, ha] using h a

/-! ### The byte at an address -/

/-- The written byte is read back (20_memory.md R71). -/
theorem byteAt_putByte_same {s : State} (h : Memory.wf s.mem = true) (a : Word) (v : Byte) :
    (s.putByte a v).byteAt a = v :=
  memGet_memPut_same h a.toNat v

/-- Every other byte is as before. -/
theorem byteAt_putByte_other (s : State) {a b : Word} (v : Byte) (h : b ≠ a) :
    (s.putByte a v).byteAt b = s.byteAt b :=
  memGet_memPut_other s.mem v fun e => h (BitVec.eq_of_toNat_eq e)

/-- Writing the byte that is there changes nothing. -/
theorem putByte_byteAt {s : State} (h : Memory.wf s.mem = true) (a : Word) : s.putByte a (s.byteAt a) = s := by
  have : memPut s.mem a.toNat (memGet s.mem a.toNat) = s.mem := by
    refine memory_ext (Memory.wf_memPut a _ h) h fun b => ?_
    by_cases hb : b = a.toNat
    · subst hb; exact memGet_memPut_same h _ _
    · exact memGet_memPut_other _ _ hb
  simp [State.putByte, State.byteAt, State.setMem, this]

/-! ### The intercept table -/

theorem hooksWfFrom_weaken {t : List (Nat × Hook)} {lo lo' : Nat} (h : hooksWfFrom lo t = true) (hl : lo' ≤ lo) :
    hooksWfFrom lo' t = true := by
  cases t with
  | nil => rfl
  | cons c rest =>
    simp only [hooksWfFrom, Bool.and_eq_true, decide_eq_true_eq] at h ⊢
    exact ⟨⟨by omega, h.1.2⟩, h.2⟩

theorem hookGet_hookPut_same (t : List (Nat × Hook)) (a : Nat) (h : Hook) : hookGet (hookPut t a h) a = some h := by
  induction t with
  | nil => simp [hookPut, hookGet]
  | cons c rest ih =>
    obtain ⟨k, g⟩ := c
    by_cases h1 : k < a
    · simp [hookPut, h1, hookGet, show ¬ k = a by omega, ih]
    · by_cases h2 : k = a <;> simp [hookPut, hookGet, h1, h2]

theorem hookGet_hookPut_other (t : List (Nat × Hook)) {a b : Nat} (h : Hook) (hb : b ≠ a) :
    hookGet (hookPut t a h) b = hookGet t b := by
  induction t with
  | nil => simp [hookPut, hookGet, hb.symm]
  | cons c rest ih =>
    obtain ⟨k, g⟩ := c
    by_cases h1 : k < a
    · simp [hookPut, h1, hookGet, ih]
    · by_cases h2 : k = a
      · subst h2; simp [hookPut, hookGet, hb.symm]
      · simp [hookPut, hookGet, h1, h2, hb.symm]

theorem hookGet_below {t : List (Nat × Hook)} {lo a : Nat} (h : hooksWfFrom lo t = true) (ha : a < lo) :
    hookGet t a = none := by
  induction t generalizing lo with
  | nil => rfl
  | cons c rest ih =>
    simp only [hooksWfFrom, Bool.and_eq_true, decide_eq_true_eq] at h
    simp only [hookGet, show ¬ c.1 = a by omega, if_false]
    exact ih h.2 (by omega)

theorem hookGet_hookErase_same {t : List (Nat × Hook)} {lo : Nat} (h : hooksWfFrom lo t = true) (a : Nat) :
    hookGet (hookErase t a) a = none := by
  induction t generalizing lo with
  | nil => rfl
  | cons c rest ih =>
    simp only [hooksWfFrom, Bool.and_eq_true, decide_eq_true_eq] at h
    by_cases h1 : c.1 = a
    · simpa [hookErase, h1] using hookGet_below h.2 (show a < c.1 + 1 by omega)
    · simpa [hookErase, hookGet, h1] using ih h.2

theorem hookGet_hookErase_other (t : List (Nat × Hook)) {a b : Nat} (hb : b ≠ a) :
    hookGet (hookErase t a) b = hookGet t b := by
  induction t with
  | nil => rfl
  | cons c rest ih =>
    by_cases h1 : c.1 = a
    · simp [hookErase, hookGet, h1, hb.symm]
    · simp [hookErase, hookGet, h1, ih]

theorem hooksWfFrom_hookPut {t : List (Nat × Hook)} {lo a : Nat} (g : Hook) (h : hooksWfFrom lo t = true)
    (hl : lo ≤ a) (ha : a < 65536) : hooksWfFrom lo (hookPut t a g) = true := by
  induction t generalizing lo with
  | nil => simp [hookPut, hooksWfFrom, hl, ha]
  | cons c rest ih =>
    obtain ⟨k, g'⟩ := c
    simp only [hooksWfFrom, Bool.and_eq_true, decide_eq_true_eq] at h
    obtain ⟨⟨hk, hk'⟩, hr⟩ := h
    by_cases h1 : k < a
    · simp only [hookPut, h1, if_true, hooksWfFrom, Bool.and_eq_true, decide_eq_true_eq]
      exact ⟨⟨hk, hk'⟩, ih hr (by omega)⟩
    · by_cases h2 : k = a
      · subst h2; simp [hookPut, hooksWfFrom, hl, ha, hr]
      · simp [hookPut, hooksWfFrom, h1, h2, hl, ha, hk', hr, show a + 1 ≤ k by omega]

theorem hooksWfFrom_hookErase {t : List (Nat × Hook)} {lo : Nat} (a : Nat) (h : hooksWfFrom lo t = true) :
    hooksWfFrom lo (hookErase t a) = true := by
  induction t generalizing lo with
  | nil => rfl
  | cons c rest ih =>
    simp only [hooksWfFrom, Bool.and_eq_true, decide_eq_true_eq] at h
    by_cases h1 : c.1 = a
    · simpa [hookErase, h1] using hooksWfFrom_weaken h.2 (by omega)
    · simp only [hookErase, h1, if_false, hooksWfFrom, Bool.and_eq_true, decide_eq_true_eq]
      exact ⟨h.1, ih h.2⟩

theorem interceptsWf_hookPutRange {t : List (Nat × Hook)} (start : Nat) (g : Hook) (len : Nat)
    (h : interceptsWf t = true) (hr : start + len ≤ 65536) : interceptsWf (hookPutRange t start g len) = true := by
  induction len with
  | zero => exact h
  | succ n ih => exact hooksWfFrom_hookPut g (ih (by omega)) (Nat.zero_le _) (by omega)

theorem interceptsWf_hookEraseRange {t : List (Nat × Hook)} (start len : Nat) (h : interceptsWf t = true) :
    interceptsWf (hookEraseRange t start len) = true := by
  induction len with
  | zero => exact h
  | succ n ih => exact hooksWfFrom_hookErase _ ih

/-! ### The pending set -/

theorem sourcesWfFrom_weaken {p : List Nat} {lo lo' : Nat} (h : sourcesWfFrom lo p = true) (hl : lo' ≤ lo) :
    sourcesWfFrom lo' p = true := by
  cases p with
  | nil => rfl
  | cons j rest =>
    simp only [sourcesWfFrom, Bool.and_eq_true, decide_eq_true_eq] at h ⊢
    exact ⟨by omega, h.2⟩

/-- Raising makes exactly the union (60_exceptions.md R262). -/
theorem mem_insertSource (p : List Nat) (k j : Nat) : j ∈ insertSource p k ↔ j = k ∨ j ∈ p := by
  induction p with
  | nil => simp [insertSource]
  | cons l rest ih =>
    by_cases h1 : l < k
    · simp [insertSource, h1, ih]; tauto
    · by_cases h2 : l = k
      · subst h2; simp [insertSource]
      · simp [insertSource, h1, h2]

/-- Clearing makes exactly the difference (60_exceptions.md R263). -/
theorem mem_removeSource {p : List Nat} {lo : Nat} (h : sourcesWfFrom lo p = true) (k j : Nat) :
    j ∈ removeSource p k ↔ j ≠ k ∧ j ∈ p := by
  have low : ∀ {q : List Nat} {l : Nat}, sourcesWfFrom l q = true → ∀ i ∈ q, l ≤ i := by
    intro q
    induction q with
    | nil => simp
    | cons a rest ih =>
      intro l hl i hi
      simp only [sourcesWfFrom, Bool.and_eq_true, decide_eq_true_eq] at hl
      rcases List.mem_cons.mp hi with rfl | hi
      · exact hl.1
      · have := ih hl.2 i hi; omega
  induction p generalizing lo with
  | nil => simp [removeSource]
  | cons l rest ih =>
    simp only [sourcesWfFrom, Bool.and_eq_true, decide_eq_true_eq] at h
    by_cases h1 : l = k
    · subst h1
      simp only [removeSource, if_true, List.mem_cons]
      constructor
      · intro hj
        have := low h.2 j hj
        exact ⟨by omega, .inr hj⟩
      · rintro ⟨hne, rfl | hj⟩
        · exact absurd rfl hne
        · exact hj
    · simp only [removeSource, h1, if_false, List.mem_cons, ih h.2]
      constructor
      · rintro (rfl | ⟨hne, hj⟩)
        · exact ⟨h1, .inl rfl⟩
        · exact ⟨hne, .inr hj⟩
      · rintro ⟨hne, rfl | hj⟩
        · exact .inl rfl
        · exact .inr ⟨hne, hj⟩

theorem sourcesWfFrom_insertSource {p : List Nat} {lo : Nat} {k : Nat} (h : sourcesWfFrom lo p = true)
    (hl : lo ≤ k) : sourcesWfFrom lo (insertSource p k) = true := by
  induction p generalizing lo with
  | nil => simp [insertSource, sourcesWfFrom, hl]
  | cons j rest ih =>
    have h' := h
    simp only [sourcesWfFrom, Bool.and_eq_true, decide_eq_true_eq] at h'
    by_cases h1 : j < k
    · simp only [insertSource, h1, if_true, sourcesWfFrom, Bool.and_eq_true, decide_eq_true_eq]
      exact ⟨h'.1, ih h'.2 (by omega)⟩
    · by_cases h2 : j = k
      · simpa [insertSource, h1, h2] using h2 ▸ h
      · simp [insertSource, sourcesWfFrom, h1, h2, hl, h'.2, show k + 1 ≤ j by omega]

theorem sourcesWfFrom_removeSource {p : List Nat} {lo : Nat} (k : Nat) (h : sourcesWfFrom lo p = true) :
    sourcesWfFrom lo (removeSource p k) = true := by
  induction p generalizing lo with
  | nil => rfl
  | cons j rest ih =>
    simp only [sourcesWfFrom, Bool.and_eq_true, decide_eq_true_eq] at h
    by_cases h1 : j = k
    · simpa [removeSource, h1] using sourcesWfFrom_weaken (h1 ▸ h.2) (show lo ≤ k + 1 by omega)
    · simp only [removeSource, h1, if_false, sourcesWfFrom, Bool.and_eq_true, decide_eq_true_eq]
      exact ⟨h.1, ih h.2⟩

end Sys2Proof.Machine
end

