-- ==== Sys2Proof/Laws/Bus.lean ====
section
/-!
SUPPORT. The intercept path (20_memory.md R52, R53, R55): what one access can do. An access changes
nothing but memory and the hook-call count, touches only its own address, and keeps the canonical form.
-/

namespace Sys2Proof.Machine

section
variable (s : State)

@[simp] theorem setPc_noMem (v : Word) : (s.setPc v).noMem = s.noMem.setPc v := rfl
@[simp] theorem setOldPc_noMem (v : Word) : (s.setOldPc v).noMem = s.noMem.setOldPc v := rfl
@[simp] theorem setA_noMem (v : Byte) : (s.setA v).noMem = s.noMem.setA v := rfl
@[simp] theorem setX_noMem (v : Byte) : (s.setX v).noMem = s.noMem.setX v := rfl
@[simp] theorem setY_noMem (v : Byte) : (s.setY v).noMem = s.noMem.setY v := rfl
@[simp] theorem setSp_noMem (v : Byte) : (s.setSp v).noMem = s.noMem.setSp v := rfl
@[simp] theorem setFlags_noMem (v : Flags) : (s.setFlags v).noMem = s.noMem.setFlags v := rfl
@[simp] theorem setStopped_noMem (v : Bool) : (s.setStopped v).noMem = s.noMem.setStopped v := rfl
@[simp] theorem setWaiting_noMem (v : Bool) : (s.setWaiting v).noMem = s.noMem.setWaiting v := rfl
@[simp] theorem setPending_noMem (v : List SourceId) : (s.setPending v).noMem = s.noMem.setPending v := rfl
@[simp] theorem setCycles_noMem (v : Nat) : (s.setCycles v).noMem = s.noMem.setCycles v := rfl
@[simp] theorem setIntercepts_noMem (v : List (Nat × Hook)) : (s.setIntercepts v).noMem = s.noMem.setIntercepts v := rfl
@[simp] theorem setReturned_noMem (v : Nat) : (s.setReturned v).noMem = s.noMem.setReturned v := rfl
@[simp] theorem setMem_noMem (v : List Host.Cell) : (s.setMem v).noMem = s.noMem := rfl
@[simp] theorem setHookCalls_noMem (v : Nat) : (s.setHookCalls v).noMem = s.noMem := rfl
@[simp] theorem addCycles_noMem (k : Nat) : (s.addCycles k).noMem = s.noMem.addCycles k := rfl
@[simp] theorem setNZ_noMem (v : Byte) : (s.setNZ v).noMem = s.noMem.setNZ v := rfl
@[simp] theorem putByte_noMem (a : Word) (v : Byte) : (s.putByte a v).noMem = s.noMem := rfl
@[simp] theorem noMem_pc : s.noMem.pc = s.pc := rfl
@[simp] theorem noMem_oldPc : s.noMem.oldPc = s.oldPc := rfl
@[simp] theorem noMem_a : s.noMem.a = s.a := rfl
@[simp] theorem noMem_x : s.noMem.x = s.x := rfl
@[simp] theorem noMem_y : s.noMem.y = s.y := rfl
@[simp] theorem noMem_sp : s.noMem.sp = s.sp := rfl
@[simp] theorem noMem_flags : s.noMem.flags = s.flags := rfl
@[simp] theorem noMem_stopped : s.noMem.stopped = s.stopped := rfl
@[simp] theorem noMem_waiting : s.noMem.waiting = s.waiting := rfl
@[simp] theorem noMem_pending : s.noMem.pending = s.pending := rfl
@[simp] theorem noMem_cycles : s.noMem.cycles = s.cycles := rfl
@[simp] theorem noMem_intercepts : s.noMem.intercepts = s.intercepts := rfl
@[simp] theorem noMem_returned : s.noMem.returned = s.returned := rfl

/-! ### One read -/

/-- A read changes nothing but memory and the hook-call count. -/
@[simp] theorem memRead_noMem (a : Word) : (memRead a s).2.noMem = s.noMem := by
  unfold memRead
  split <;> rfl

@[simp] theorem memRead_pc (a : Word) : (memRead a s).2.pc = s.pc :=
  (congrArg State.pc (memRead_noMem s a) :)
@[simp] theorem memRead_oldPc (a : Word) : (memRead a s).2.oldPc = s.oldPc :=
  (congrArg State.oldPc (memRead_noMem s a) :)
@[simp] theorem memRead_a (a : Word) : (memRead a s).2.a = s.a :=
  (congrArg State.a (memRead_noMem s a) :)
@[simp] theorem memRead_x (a : Word) : (memRead a s).2.x = s.x :=
  (congrArg State.x (memRead_noMem s a) :)
@[simp] theorem memRead_y (a : Word) : (memRead a s).2.y = s.y :=
  (congrArg State.y (memRead_noMem s a) :)
@[simp] theorem memRead_sp (a : Word) : (memRead a s).2.sp = s.sp :=
  (congrArg State.sp (memRead_noMem s a) :)
@[simp] theorem memRead_flags (a : Word) : (memRead a s).2.flags = s.flags :=
  (congrArg State.flags (memRead_noMem s a) :)
@[simp] theorem memRead_stopped (a : Word) : (memRead a s).2.stopped = s.stopped :=
  (congrArg State.stopped (memRead_noMem s a) :)
@[simp] theorem memRead_waiting (a : Word) : (memRead a s).2.waiting = s.waiting :=
  (congrArg State.waiting (memRead_noMem s a) :)
@[simp] theorem memRead_pending (a : Word) : (memRead a s).2.pending = s.pending :=
  (congrArg State.pending (memRead_noMem s a) :)
@[simp] theorem memRead_cycles (a : Word) : (memRead a s).2.cycles = s.cycles :=
  (congrArg State.cycles (memRead_noMem s a) :)
@[simp] theorem memRead_intercepts (a : Word) : (memRead a s).2.intercepts = s.intercepts :=
  (congrArg State.intercepts (memRead_noMem s a) :)
@[simp] theorem memRead_returned (a : Word) : (memRead a s).2.returned = s.returned :=
  (congrArg State.returned (memRead_noMem s a) :)
@[simp] theorem memRead_hookAt (a : Word) (b : Word) : (memRead a s).2.hookAt b = s.hookAt b :=
  (congrArg (State.hookAt · b) (memRead_noMem s a) :)

/-- A read of an address with no intercept has no side effect (R52). -/
theorem memRead_unbound {s : State} {a : Word} (h : s.hookAt a = none) : memRead a s = (s.byteAt a, s) := by
  simp [memRead, h]

/-- A read of a read-only region changes nothing (log 8). -/
theorem memRead_rom {s : State} {a : Word} (h : s.hookAt a = some .rom) : memRead a s = (s.byteAt a, s) := by
  simp [memRead, h]

/-- A read returns Memory's value at its address after the hook's byte was stored there (R52). -/
theorem memRead_value (a : Word) : (memRead a s).1 = (memRead a s).2.byteAt a := by
  unfold memRead
  split <;> rfl

/-- An intercepted read returns the hook's byte (R52). -/
theorem memRead_oracle {s : State} {a : Word} {id : Nat} (hm : Memory.wf s.mem = true)
    (h : s.hookAt a = some (.oracle id)) :
    memRead a s = (Config.hookReadByte id s.hookCalls a s.context,
      (s.setHookCalls (s.hookCalls + 1)).putByte a (Config.hookReadByte id s.hookCalls a s.context)) := by
  simp only [memRead, h]
  rw [byteAt_putByte_same (by simpa using hm)]

/-- A read changes no byte at another address. -/
theorem memRead_byteAt_other {a b : Word} (h : b ≠ a) : (memRead a s).2.byteAt b = s.byteAt b := by
  unfold memRead
  split
  · rfl
  · rfl
  · exact byteAt_putByte_other _ _ h

/-- A read changes no byte at which no hook is bound. -/
theorem memRead_byteAt_unbound (a : Word) {b : Word} (h : s.hookAt b = none) :
    (memRead a s).2.byteAt b = s.byteAt b := by
  by_cases hb : b = a
  · subst hb; rw [memRead_unbound h]
  · exact memRead_byteAt_other s hb

theorem memRead_wf {s : State} (a : Word) (h : Memory.wf s.mem = true) : Memory.wf (memRead a s).2.mem = true := by
  unfold memRead
  split
  · exact h
  · exact h
  · exact Memory.wf_memPut a _ h

/-! ### One write -/

/-- A write changes nothing but memory and the hook-call count. -/
@[simp] theorem memWrite_noMem (a : Word) (v : Byte) : (memWrite a v s).noMem = s.noMem := by
  unfold memWrite
  split
  · rfl
  · rfl
  · dsimp only
    split <;> rfl

@[simp] theorem memWrite_pc (a : Word) (v : Byte) : (memWrite a v s).pc = s.pc :=
  (congrArg State.pc (memWrite_noMem s a v) :)
@[simp] theorem memWrite_oldPc (a : Word) (v : Byte) : (memWrite a v s).oldPc = s.oldPc :=
  (congrArg State.oldPc (memWrite_noMem s a v) :)
@[simp] theorem memWrite_a (a : Word) (v : Byte) : (memWrite a v s).a = s.a :=
  (congrArg State.a (memWrite_noMem s a v) :)
@[simp] theorem memWrite_x (a : Word) (v : Byte) : (memWrite a v s).x = s.x :=
  (congrArg State.x (memWrite_noMem s a v) :)
@[simp] theorem memWrite_y (a : Word) (v : Byte) : (memWrite a v s).y = s.y :=
  (congrArg State.y (memWrite_noMem s a v) :)
@[simp] theorem memWrite_sp (a : Word) (v : Byte) : (memWrite a v s).sp = s.sp :=
  (congrArg State.sp (memWrite_noMem s a v) :)
@[simp] theorem memWrite_flags (a : Word) (v : Byte) : (memWrite a v s).flags = s.flags :=
  (congrArg State.flags (memWrite_noMem s a v) :)
@[simp] theorem memWrite_stopped (a : Word) (v : Byte) : (memWrite a v s).stopped = s.stopped :=
  (congrArg State.stopped (memWrite_noMem s a v) :)
@[simp] theorem memWrite_waiting (a : Word) (v : Byte) : (memWrite a v s).waiting = s.waiting :=
  (congrArg State.waiting (memWrite_noMem s a v) :)
@[simp] theorem memWrite_pending (a : Word) (v : Byte) : (memWrite a v s).pending = s.pending :=
  (congrArg State.pending (memWrite_noMem s a v) :)
@[simp] theorem memWrite_cycles (a : Word) (v : Byte) : (memWrite a v s).cycles = s.cycles :=
  (congrArg State.cycles (memWrite_noMem s a v) :)
@[simp] theorem memWrite_intercepts (a : Word) (v : Byte) : (memWrite a v s).intercepts = s.intercepts :=
  (congrArg State.intercepts (memWrite_noMem s a v) :)
@[simp] theorem memWrite_returned (a : Word) (v : Byte) : (memWrite a v s).returned = s.returned :=
  (congrArg State.returned (memWrite_noMem s a v) :)
@[simp] theorem memWrite_hookAt (a : Word) (v : Byte) (b : Word) : (memWrite a v s).hookAt b = s.hookAt b :=
  (congrArg (State.hookAt · b) (memWrite_noMem s a v) :)

/-- A write at an address with no intercept updates Memory (R55). -/
theorem memWrite_unbound {s : State} {a : Word} (v : Byte) (h : s.hookAt a = none) :
    memWrite a v s = s.putByte a v := by
  simp [memWrite, h]

/-- A write to a read-only region leaves Memory untouched (R55). -/
theorem memWrite_rom {s : State} {a : Word} (v : Byte) (h : s.hookAt a = some .rom) : memWrite a v s = s := by
  simp [memWrite, h]

/-- A write changes no byte at another address. -/
theorem memWrite_byteAt_other {a b : Word} (v : Byte) (h : b ≠ a) : (memWrite a v s).byteAt b = s.byteAt b := by
  unfold memWrite
  split
  · exact byteAt_putByte_other _ _ h
  · rfl
  · dsimp only
    split
    · rfl
    · exact byteAt_putByte_other _ _ h

/-- The byte of an unintercepted write is read back (R71). -/
theorem memWrite_byteAt_same {s : State} {a : Word} (v : Byte) (hm : Memory.wf s.mem = true)
    (h : s.hookAt a = none) : (memWrite a v s).byteAt a = v := by
  rw [memWrite_unbound v h, byteAt_putByte_same hm]

theorem memWrite_wf {s : State} (a : Word) (v : Byte) (h : Memory.wf s.mem = true) :
    Memory.wf (memWrite a v s).mem = true := by
  unfold memWrite
  split
  · exact Memory.wf_memPut a v h
  · exact h
  · dsimp only
    split
    · exact h
    · exact Memory.wf_memPut a v h

/-! ### Two reads: a word -/

@[simp] theorem memRead16_noMem (a : Word) : (memRead16 a s).2.noMem = s.noMem := by
  simp [memRead16]

@[simp] theorem memRead16_pc (a : Word) : (memRead16 a s).2.pc = s.pc :=
  (congrArg State.pc (memRead16_noMem s a) :)
@[simp] theorem memRead16_oldPc (a : Word) : (memRead16 a s).2.oldPc = s.oldPc :=
  (congrArg State.oldPc (memRead16_noMem s a) :)
@[simp] theorem memRead16_a (a : Word) : (memRead16 a s).2.a = s.a :=
  (congrArg State.a (memRead16_noMem s a) :)
@[simp] theorem memRead16_x (a : Word) : (memRead16 a s).2.x = s.x :=
  (congrArg State.x (memRead16_noMem s a) :)
@[simp] theorem memRead16_y (a : Word) : (memRead16 a s).2.y = s.y :=
  (congrArg State.y (memRead16_noMem s a) :)
@[simp] theorem memRead16_sp (a : Word) : (memRead16 a s).2.sp = s.sp :=
  (congrArg State.sp (memRead16_noMem s a) :)
@[simp] theorem memRead16_flags (a : Word) : (memRead16 a s).2.flags = s.flags :=
  (congrArg State.flags (memRead16_noMem s a) :)
@[simp] theorem memRead16_stopped (a : Word) : (memRead16 a s).2.stopped = s.stopped :=
  (congrArg State.stopped (memRead16_noMem s a) :)
@[simp] theorem memRead16_waiting (a : Word) : (memRead16 a s).2.waiting = s.waiting :=
  (congrArg State.waiting (memRead16_noMem s a) :)
@[simp] theorem memRead16_pending (a : Word) : (memRead16 a s).2.pending = s.pending :=
  (congrArg State.pending (memRead16_noMem s a) :)
@[simp] theorem memRead16_cycles (a : Word) : (memRead16 a s).2.cycles = s.cycles :=
  (congrArg State.cycles (memRead16_noMem s a) :)
@[simp] theorem memRead16_intercepts (a : Word) : (memRead16 a s).2.intercepts = s.intercepts :=
  (congrArg State.intercepts (memRead16_noMem s a) :)
@[simp] theorem memRead16_returned (a : Word) : (memRead16 a s).2.returned = s.returned :=
  (congrArg State.returned (memRead16_noMem s a) :)
@[simp] theorem memRead16_hookAt (a : Word) (b : Word) : (memRead16 a s).2.hookAt b = s.hookAt b :=
  (congrArg (State.hookAt · b) (memRead16_noMem s a) :)

/-- A word read where no hook is bound: low byte first, little-endian (R53, R59). -/
theorem memRead16_unbound {s : State} {a : Word} (h0 : s.hookAt a = none) (h1 : s.hookAt (a + 1#16) = none) :
    memRead16 a s = (mkWord (s.byteAt (a + 1#16)) (s.byteAt a), s) := by
  simp [memRead16, memRead_unbound h0, memRead_unbound h1]

theorem memRead16_byteAt_other {a b : Word} (h0 : b ≠ a) (h1 : b ≠ a + 1#16) :
    (memRead16 a s).2.byteAt b = s.byteAt b := by
  simp [memRead16, memRead_byteAt_other _ h1, memRead_byteAt_other _ h0]

theorem memRead16_byteAt_unbound (a : Word) {b : Word} (h : s.hookAt b = none) :
    (memRead16 a s).2.byteAt b = s.byteAt b := by
  have h' : (memRead a s).2.hookAt b = none := by simpa using h
  simp [memRead16, memRead_byteAt_unbound _ _ h', memRead_byteAt_unbound _ _ h]

theorem memRead16_wf {s : State} (a : Word) (h : Memory.wf s.mem = true) :
    Memory.wf (memRead16 a s).2.mem = true :=
  memRead_wf _ (memRead_wf _ h)

end

end Sys2Proof.Machine
end

