-- ==== Sys2Proof/Laws/Stack.lean ====
section
/-!
SUPPORT. The stack, the interrupt entry and its return, and the interrupt check: what each changes
(40_engine_and_addressing.md R125 to R127, 60_exceptions.md R253, R254, 45_stack_flags_system.md R237).
-/

namespace Sys2Proof.Machine

section
variable (s : State)

/-! ### Push and pop -/

@[simp] theorem push_noMem (v : Byte) : (push v s).noMem = s.noMem.setSp (s.sp - 1#8) := by
  simp [push]

@[simp] theorem push_pc (v : Byte) : (push v s).pc = s.pc :=
  (congrArg State.pc (push_noMem s v) :)
@[simp] theorem push_oldPc (v : Byte) : (push v s).oldPc = s.oldPc :=
  (congrArg State.oldPc (push_noMem s v) :)
@[simp] theorem push_a (v : Byte) : (push v s).a = s.a :=
  (congrArg State.a (push_noMem s v) :)
@[simp] theorem push_x (v : Byte) : (push v s).x = s.x :=
  (congrArg State.x (push_noMem s v) :)
@[simp] theorem push_y (v : Byte) : (push v s).y = s.y :=
  (congrArg State.y (push_noMem s v) :)
@[simp] theorem push_sp (v : Byte) : (push v s).sp = s.sp - 1#8 :=
  (congrArg State.sp (push_noMem s v) :)
@[simp] theorem push_flags (v : Byte) : (push v s).flags = s.flags :=
  (congrArg State.flags (push_noMem s v) :)
@[simp] theorem push_stopped (v : Byte) : (push v s).stopped = s.stopped :=
  (congrArg State.stopped (push_noMem s v) :)
@[simp] theorem push_waiting (v : Byte) : (push v s).waiting = s.waiting :=
  (congrArg State.waiting (push_noMem s v) :)
@[simp] theorem push_pending (v : Byte) : (push v s).pending = s.pending :=
  (congrArg State.pending (push_noMem s v) :)
@[simp] theorem push_cycles (v : Byte) : (push v s).cycles = s.cycles :=
  (congrArg State.cycles (push_noMem s v) :)
@[simp] theorem push_intercepts (v : Byte) : (push v s).intercepts = s.intercepts :=
  (congrArg State.intercepts (push_noMem s v) :)
@[simp] theorem push_returned (v : Byte) : (push v s).returned = s.returned :=
  (congrArg State.returned (push_noMem s v) :)
@[simp] theorem push_hookAt (v : Byte) (b : Word) : (push v s).hookAt b = s.hookAt b :=
  (congrArg (State.hookAt · b) (push_noMem s v) :)

/-- A push writes one stack slot and no other byte. -/
theorem push_byteAt_other (v : Byte) {b : Word} (h : b ≠ stackSlot s.sp) : (push v s).byteAt b = s.byteAt b :=
  memWrite_byteAt_other s v h

/-- The pushed byte stands at `0x0100 + SP` (R125). -/
theorem push_byteAt_same {s : State} (v : Byte) (hm : Memory.wf s.mem = true)
    (h : s.hookAt (stackSlot s.sp) = none) : (push v s).byteAt (stackSlot s.sp) = v :=
  memWrite_byteAt_same v hm h

theorem push_wf {s : State} (v : Byte) (h : Memory.wf s.mem = true) : Memory.wf (push v s).mem = true :=
  memWrite_wf _ v h

@[simp] theorem pop_noMem : (pop s).2.noMem = s.noMem.setSp (s.sp + 1#8) := by
  simp [pop]

@[simp] theorem pop_pc : (pop s).2.pc = s.pc :=
  (congrArg State.pc (pop_noMem s) :)
@[simp] theorem pop_oldPc : (pop s).2.oldPc = s.oldPc :=
  (congrArg State.oldPc (pop_noMem s) :)
@[simp] theorem pop_a : (pop s).2.a = s.a :=
  (congrArg State.a (pop_noMem s) :)
@[simp] theorem pop_x : (pop s).2.x = s.x :=
  (congrArg State.x (pop_noMem s) :)
@[simp] theorem pop_y : (pop s).2.y = s.y :=
  (congrArg State.y (pop_noMem s) :)
@[simp] theorem pop_sp : (pop s).2.sp = s.sp + 1#8 :=
  (congrArg State.sp (pop_noMem s) :)
@[simp] theorem pop_flags : (pop s).2.flags = s.flags :=
  (congrArg State.flags (pop_noMem s) :)
@[simp] theorem pop_stopped : (pop s).2.stopped = s.stopped :=
  (congrArg State.stopped (pop_noMem s) :)
@[simp] theorem pop_waiting : (pop s).2.waiting = s.waiting :=
  (congrArg State.waiting (pop_noMem s) :)
@[simp] theorem pop_pending : (pop s).2.pending = s.pending :=
  (congrArg State.pending (pop_noMem s) :)
@[simp] theorem pop_cycles : (pop s).2.cycles = s.cycles :=
  (congrArg State.cycles (pop_noMem s) :)
@[simp] theorem pop_intercepts : (pop s).2.intercepts = s.intercepts :=
  (congrArg State.intercepts (pop_noMem s) :)
@[simp] theorem pop_returned : (pop s).2.returned = s.returned :=
  (congrArg State.returned (pop_noMem s) :)
@[simp] theorem pop_hookAt (b : Word) : (pop s).2.hookAt b = s.hookAt b :=
  (congrArg (State.hookAt · b) (pop_noMem s) :)

/-- A pop where no hook is bound reads the slot above `SP` and erases nothing (R126). -/
theorem pop_unbound {s : State} (h : s.hookAt (stackSlot (s.sp + 1#8)) = none) :
    pop s = (s.byteAt (stackSlot (s.sp + 1#8)), s.setSp (s.sp + 1#8)) := by
  unfold pop
  exact memRead_unbound (by simpa using h)

theorem pop_byteAt_other {b : Word} (h : b ≠ stackSlot (s.sp + 1#8)) : (pop s).2.byteAt b = s.byteAt b :=
  memRead_byteAt_other (s.setSp (s.sp + 1#8)) h

theorem pop_byteAt_unbound {b : Word} (h : s.hookAt b = none) : (pop s).2.byteAt b = s.byteAt b :=
  memRead_byteAt_unbound (s.setSp (s.sp + 1#8)) _ (by simpa using h)

theorem pop_wf {s : State} (h : Memory.wf s.mem = true) : Memory.wf (pop s).2.mem = true :=
  memRead_wf _ (by simpa using h)

/-! ### Words on the stack -/

@[simp] theorem push16_noMem (w : Word) : (push16 w s).noMem = s.noMem.setSp (s.sp - 1#8 - 1#8) := by
  simp only [push16, push_noMem, push_sp]
  rfl

@[simp] theorem push16_pc (w : Word) : (push16 w s).pc = s.pc :=
  (congrArg State.pc (push16_noMem s w) :)
@[simp] theorem push16_oldPc (w : Word) : (push16 w s).oldPc = s.oldPc :=
  (congrArg State.oldPc (push16_noMem s w) :)
@[simp] theorem push16_a (w : Word) : (push16 w s).a = s.a :=
  (congrArg State.a (push16_noMem s w) :)
@[simp] theorem push16_x (w : Word) : (push16 w s).x = s.x :=
  (congrArg State.x (push16_noMem s w) :)
@[simp] theorem push16_y (w : Word) : (push16 w s).y = s.y :=
  (congrArg State.y (push16_noMem s w) :)
@[simp] theorem push16_sp (w : Word) : (push16 w s).sp = s.sp - 1#8 - 1#8 :=
  (congrArg State.sp (push16_noMem s w) :)
@[simp] theorem push16_flags (w : Word) : (push16 w s).flags = s.flags :=
  (congrArg State.flags (push16_noMem s w) :)
@[simp] theorem push16_stopped (w : Word) : (push16 w s).stopped = s.stopped :=
  (congrArg State.stopped (push16_noMem s w) :)
@[simp] theorem push16_waiting (w : Word) : (push16 w s).waiting = s.waiting :=
  (congrArg State.waiting (push16_noMem s w) :)
@[simp] theorem push16_pending (w : Word) : (push16 w s).pending = s.pending :=
  (congrArg State.pending (push16_noMem s w) :)
@[simp] theorem push16_cycles (w : Word) : (push16 w s).cycles = s.cycles :=
  (congrArg State.cycles (push16_noMem s w) :)
@[simp] theorem push16_intercepts (w : Word) : (push16 w s).intercepts = s.intercepts :=
  (congrArg State.intercepts (push16_noMem s w) :)
@[simp] theorem push16_returned (w : Word) : (push16 w s).returned = s.returned :=
  (congrArg State.returned (push16_noMem s w) :)
@[simp] theorem push16_hookAt (w : Word) (b : Word) : (push16 w s).hookAt b = s.hookAt b :=
  (congrArg (State.hookAt · b) (push16_noMem s w) :)

/-- A pushed word changes its two stack slots and no other byte. -/
theorem push16_byteAt_other (w : Word) {b : Word} (h0 : b ≠ stackSlot s.sp) (h1 : b ≠ stackSlot (s.sp - 1#8)) :
    (push16 w s).byteAt b = s.byteAt b := by
  unfold push16
  rw [push_byteAt_other _ _ (by simpa using h1), push_byteAt_other _ _ h0]

theorem push16_wf {s : State} (w : Word) (h : Memory.wf s.mem = true) : Memory.wf (push16 w s).mem = true :=
  push_wf _ (push_wf _ h)

@[simp] theorem pop16_noMem : (pop16 s).2.noMem = s.noMem.setSp (s.sp + 1#8 + 1#8) := by
  simp only [pop16, pop_noMem, pop_sp]
  rfl

@[simp] theorem pop16_pc : (pop16 s).2.pc = s.pc :=
  (congrArg State.pc (pop16_noMem s) :)
@[simp] theorem pop16_oldPc : (pop16 s).2.oldPc = s.oldPc :=
  (congrArg State.oldPc (pop16_noMem s) :)
@[simp] theorem pop16_a : (pop16 s).2.a = s.a :=
  (congrArg State.a (pop16_noMem s) :)
@[simp] theorem pop16_x : (pop16 s).2.x = s.x :=
  (congrArg State.x (pop16_noMem s) :)
@[simp] theorem pop16_y : (pop16 s).2.y = s.y :=
  (congrArg State.y (pop16_noMem s) :)
@[simp] theorem pop16_sp : (pop16 s).2.sp = s.sp + 1#8 + 1#8 :=
  (congrArg State.sp (pop16_noMem s) :)
@[simp] theorem pop16_flags : (pop16 s).2.flags = s.flags :=
  (congrArg State.flags (pop16_noMem s) :)
@[simp] theorem pop16_stopped : (pop16 s).2.stopped = s.stopped :=
  (congrArg State.stopped (pop16_noMem s) :)
@[simp] theorem pop16_waiting : (pop16 s).2.waiting = s.waiting :=
  (congrArg State.waiting (pop16_noMem s) :)
@[simp] theorem pop16_pending : (pop16 s).2.pending = s.pending :=
  (congrArg State.pending (pop16_noMem s) :)
@[simp] theorem pop16_cycles : (pop16 s).2.cycles = s.cycles :=
  (congrArg State.cycles (pop16_noMem s) :)
@[simp] theorem pop16_intercepts : (pop16 s).2.intercepts = s.intercepts :=
  (congrArg State.intercepts (pop16_noMem s) :)
@[simp] theorem pop16_returned : (pop16 s).2.returned = s.returned :=
  (congrArg State.returned (pop16_noMem s) :)
@[simp] theorem pop16_hookAt (b : Word) : (pop16 s).2.hookAt b = s.hookAt b :=
  (congrArg (State.hookAt · b) (pop16_noMem s) :)

theorem pop16_byteAt_unbound {b : Word} (h : s.hookAt b = none) : (pop16 s).2.byteAt b = s.byteAt b := by
  unfold pop16
  rw [pop_byteAt_unbound _ (by simpa using h), pop_byteAt_unbound _ h]

theorem pop16_wf {s : State} (h : Memory.wf s.mem = true) : Memory.wf (pop16 s).2.mem = true :=
  pop_wf (pop_wf h)

/-! ### Interrupt entry, return, check -/

/-- What an entry changes beside memory: `SP`, `PC`, `D` and `I` (R253). -/
@[simp] theorem interrupt_noMem (vector : Word) (brk : Bool) :
    (interrupt vector brk s).noMem
      = ((s.noMem.setSp (s.sp - 1#8 - 1#8 - 1#8)).setPc (interrupt vector brk s).pc).setFlags s.flags.enterInterrupt := by
  simp only [interrupt, setFlags_noMem, setPc_noMem, memRead16_noMem, push_noMem, push16_noMem, push16_sp,
    memRead16_flags, push_flags, push16_flags, State.setFlags_pc, State.setPc_pc]
  rfl

/-- An entry changes no byte but the three stack slots, where no hook is bound (R253). -/
theorem interrupt_byteAt_unbound (vector : Word) (brk : Bool) {b : Word} (h : s.hookAt b = none)
    (h0 : b ≠ stackSlot s.sp) (h1 : b ≠ stackSlot (s.sp - 1#8)) (h2 : b ≠ stackSlot (s.sp - 1#8 - 1#8)) :
    (interrupt vector brk s).byteAt b = s.byteAt b := by
  simp only [interrupt, State.setFlags_byteAt, State.setPc_byteAt]
  rw [memRead16_byteAt_unbound _ _ (by simpa using h), push_byteAt_other _ _ (by simpa using h2),
    push16_byteAt_other _ _ h0 h1]

theorem interrupt_wf {s : State} (vector : Word) (brk : Bool) (h : Memory.wf s.mem = true) :
    Memory.wf (interrupt vector brk s).mem = true :=
  memRead16_wf (s := push _ (push16 s.pc s)) _ (push_wf _ (push16_wf _ h))

/-- What a return changes beside memory: `SP`, `PC` and the six flags (R237). -/
@[simp] theorem returnFromInterrupt_noMem :
    (returnFromInterrupt s).noMem
      = ((s.noMem.setFlags (returnFromInterrupt s).flags).setSp (s.sp + 1#8 + 1#8 + 1#8)).setPc
          (returnFromInterrupt s).pc := by
  simp only [returnFromInterrupt, setPc_noMem, pop16_noMem, setFlags_noMem, pop_noMem, State.setFlags_sp, pop_sp,
    State.setPc_pc, State.setPc_flags, pop16_flags, State.setFlags_flags]
  rfl

theorem returnFromInterrupt_wf {s : State} (h : Memory.wf s.mem = true) :
    Memory.wf (returnFromInterrupt s).mem = true :=
  pop16_wf (s := (pop s).2.setFlags _) (pop_wf h)

/-- What the check can do (R254): nothing; wake a masked wait; or enter the IRQ. -/
theorem irqCheck_cases :
    irqCheck s = s ∨ (s.pending ≠ [] ∧ s.flags.i = true ∧ s.waiting = true ∧ irqCheck s = s.setWaiting false) ∨
      (s.pending ≠ [] ∧ s.flags.i = false ∧
        irqCheck s = ((interrupt irqVector false s).setWaiting false).addCycles irqEntryCycles) := by
  unfold irqCheck
  by_cases hp : s.pending = []
  · simp [hp]
  · by_cases hi : s.flags.i = true
    · by_cases hw : s.waiting = true
      · exact .inr (.inl ⟨hp, hi, hw, by simp [hp, hi, hw, waiWakesWhenMasked]⟩)
      · exact .inl (by simp [hi, hw])
    · have hi : s.flags.i = false := by simpa using hi
      exact .inr (.inr ⟨hp, hi, by simp [hp, hi]⟩)

theorem irqCheck_wf {s : State} (h : Memory.wf s.mem = true) : Memory.wf (irqCheck s).mem = true := by
  obtain e | ⟨_, _, _, e⟩ | ⟨_, _, e⟩ := irqCheck_cases s <;> rw [e]
  · exact h
  · exact h
  · exact interrupt_wf irqVector false h

end

end Sys2Proof.Machine
end

