-- ==== Sys2Proof/Laws/Operands.lean ====
section
/-!
SUPPORT. The addressing stage and the write-back stage (40_engine_and_addressing.md R104 to R121): a
mode writes no register and no flag; what it reads; the canonical form is kept.
-/

namespace Sys2Proof.Machine

section
variable (s : State)

/-- A mode is "pure": it assigns no register and no flag (R105, 90_conflicts.md C8). -/
@[simp] theorem resolve_noMem (load : Bool) (m : Operand) : (resolve load m s).state.noMem = s.noMem := by
  cases load <;> cases m <;>
    simp [resolve, operandAt, zeroPagePointer, samePagePointer]

@[simp] theorem resolve_pc (load : Bool) (m : Operand) : (resolve load m s).state.pc = s.pc :=
  (congrArg State.pc (resolve_noMem s load m) :)
@[simp] theorem resolve_oldPc (load : Bool) (m : Operand) : (resolve load m s).state.oldPc = s.oldPc :=
  (congrArg State.oldPc (resolve_noMem s load m) :)
@[simp] theorem resolve_a (load : Bool) (m : Operand) : (resolve load m s).state.a = s.a :=
  (congrArg State.a (resolve_noMem s load m) :)
@[simp] theorem resolve_x (load : Bool) (m : Operand) : (resolve load m s).state.x = s.x :=
  (congrArg State.x (resolve_noMem s load m) :)
@[simp] theorem resolve_y (load : Bool) (m : Operand) : (resolve load m s).state.y = s.y :=
  (congrArg State.y (resolve_noMem s load m) :)
@[simp] theorem resolve_sp (load : Bool) (m : Operand) : (resolve load m s).state.sp = s.sp :=
  (congrArg State.sp (resolve_noMem s load m) :)
@[simp] theorem resolve_flags (load : Bool) (m : Operand) : (resolve load m s).state.flags = s.flags :=
  (congrArg State.flags (resolve_noMem s load m) :)
@[simp] theorem resolve_stopped (load : Bool) (m : Operand) : (resolve load m s).state.stopped = s.stopped :=
  (congrArg State.stopped (resolve_noMem s load m) :)
@[simp] theorem resolve_waiting (load : Bool) (m : Operand) : (resolve load m s).state.waiting = s.waiting :=
  (congrArg State.waiting (resolve_noMem s load m) :)
@[simp] theorem resolve_pending (load : Bool) (m : Operand) : (resolve load m s).state.pending = s.pending :=
  (congrArg State.pending (resolve_noMem s load m) :)
@[simp] theorem resolve_cycles (load : Bool) (m : Operand) : (resolve load m s).state.cycles = s.cycles :=
  (congrArg State.cycles (resolve_noMem s load m) :)
@[simp] theorem resolve_intercepts (load : Bool) (m : Operand) : (resolve load m s).state.intercepts = s.intercepts :=
  (congrArg State.intercepts (resolve_noMem s load m) :)
@[simp] theorem resolve_returned (load : Bool) (m : Operand) : (resolve load m s).state.returned = s.returned :=
  (congrArg State.returned (resolve_noMem s load m) :)
@[simp] theorem resolve_hookAt (load : Bool) (m : Operand) (b : Word) : (resolve load m s).state.hookAt b = s.hookAt b :=
  (congrArg (State.hookAt · b) (resolve_noMem s load m) :)

/-- A mode's reads change no byte at which no hook is bound. -/
theorem resolve_byteAt_unbound (load : Bool) (m : Operand) {b : Word} (h : s.hookAt b = none) :
    (resolve load m s).state.byteAt b = s.byteAt b := by
  cases load <;> cases m <;>
    simp [resolve, operandAt, zeroPagePointer, samePagePointer, memRead_byteAt_unbound, memRead16_byteAt_unbound, h]

theorem zeroPagePointer_wf {s : State} (z : Byte) (h : Memory.wf s.mem = true) :
    Memory.wf (zeroPagePointer z s).2.mem = true :=
  memRead_wf _ (memRead_wf _ h)

theorem samePagePointer_wf {s : State} (ptr : Word) (h : Memory.wf s.mem = true) :
    Memory.wf (samePagePointer ptr s).2.mem = true :=
  memRead_wf _ (memRead_wf _ h)

/-- A zero-page pointer where no hook is bound: its high byte stays in the zero page (R116 to R118). -/
theorem zeroPagePointer_unbound {s : State} {z : Byte} (h0 : s.hookAt (zeroExt z) = none)
    (h1 : s.hookAt (zeroExt (z + 1#8)) = none) :
    zeroPagePointer z s = (mkWord (s.byteAt (zeroExt (z + 1#8))) (s.byteAt (zeroExt z)), s) := by
  simp [zeroPagePointer, memRead_unbound h0, memRead_unbound h1]

/-- The pointer of `JMP (ptr)` where no hook is bound: its high byte is in the same page (R115). -/
theorem samePagePointer_unbound {s : State} {ptr : Word} (h0 : s.hookAt ptr = none)
    (h1 : s.hookAt (mkWord (hiByte ptr) (loByte ptr + 1#8)) = none) :
    samePagePointer ptr s
      = (mkWord (s.byteAt (mkWord (hiByte ptr) (loByte ptr + 1#8))) (s.byteAt ptr), s) := by
  simp [samePagePointer, memRead_unbound h0, memRead_unbound h1]

/-- The operand load where no hook is bound: a plain read, or none. -/
theorem operandAt_unbound {s : State} (load : Bool) {a : Word} (extra : Nat) (h : s.hookAt a = none) :
    operandAt load a extra s = ⟨s, a, if load then s.byteAt a else 0#8, extra⟩ := by
  cases load <;> simp [operandAt, memRead_unbound h]

theorem resolve_wf {s : State} (load : Bool) (m : Operand) (h : Memory.wf s.mem = true) :
    Memory.wf (resolve load m s).state.mem = true := by
  cases load <;> cases m <;>
    simp [resolve, operandAt, zeroPagePointer_wf, samePagePointer_wf, memRead_wf, memRead16_wf, h]

/-- The write-back stage writes `A` in mode ACC and otherwise no register. -/
theorem writeBack_noMem (m : Mode) (address : Word) (alu : Byte) :
    (writeBack m address alu s).noMem = if m = .acc then s.noMem.setA alu else s.noMem := by
  cases m <;> simp [writeBack]

/-- The write-back stage changes no byte but the one at `address`. -/
theorem writeBack_byteAt_other (m : Mode) {address b : Word} (alu : Byte) (h : b ≠ address) :
    (writeBack m address alu s).byteAt b = s.byteAt b := by
  cases m <;> simp [writeBack, memWrite_byteAt_other _ _ h]

theorem writeBack_wf {s : State} (m : Mode) (address : Word) (alu : Byte) (h : Memory.wf s.mem = true) :
    Memory.wf (writeBack m address alu s).mem = true := by
  cases m <;> simp [writeBack, memWrite_wf, h]

/-! ### Stages 4 to 6 -/

@[simp] theorem advance_noMem (r : Resolved) (count : Nat) :
    (r.advance count).noMem
      = (r.state.noMem.addCycles r.extra).setPc (r.state.pc + BitVec.ofNat 16 count) := rfl
@[simp] theorem advance_mem (r : Resolved) (count : Nat) : (r.advance count).mem = r.state.mem := rfl
@[simp] theorem advance_byteAt (r : Resolved) (count : Nat) (b : Word) :
    (r.advance count).byteAt b = r.state.byteAt b := rfl
@[simp] theorem advance_hookAt (r : Resolved) (count : Nat) (b : Word) :
    (r.advance count).hookAt b = r.state.hookAt b := rfl
@[simp] theorem advance_oldPc (r : Resolved) (count : Nat) : (r.advance count).oldPc = r.state.oldPc := rfl
@[simp] theorem advance_a (r : Resolved) (count : Nat) : (r.advance count).a = r.state.a := rfl
@[simp] theorem advance_x (r : Resolved) (count : Nat) : (r.advance count).x = r.state.x := rfl
@[simp] theorem advance_y (r : Resolved) (count : Nat) : (r.advance count).y = r.state.y := rfl
@[simp] theorem advance_sp (r : Resolved) (count : Nat) : (r.advance count).sp = r.state.sp := rfl
@[simp] theorem advance_flags (r : Resolved) (count : Nat) : (r.advance count).flags = r.state.flags := rfl
@[simp] theorem advance_stopped (r : Resolved) (count : Nat) : (r.advance count).stopped = r.state.stopped := rfl
@[simp] theorem advance_waiting (r : Resolved) (count : Nat) : (r.advance count).waiting = r.state.waiting := rfl
@[simp] theorem advance_pending (r : Resolved) (count : Nat) : (r.advance count).pending = r.state.pending := rfl
@[simp] theorem advance_intercepts (r : Resolved) (count : Nat) : (r.advance count).intercepts = r.state.intercepts := rfl
@[simp] theorem advance_returned (r : Resolved) (count : Nat) : (r.advance count).returned = r.state.returned := rfl
@[simp] theorem advance_pc (r : Resolved) (count : Nat) :
    (r.advance count).pc = r.state.pc + BitVec.ofNat 16 count := rfl

/-- The stages keep the canonical form of memory if the operation does. -/
theorem runStages_wf {s : State} (load wb : Bool) (count : Nat) (op : Oper) (m : Operand)
    (hop : ∀ address alu t, Memory.wf t.mem = true → Memory.wf (op address alu t).state.mem = true)
    (h : Memory.wf s.mem = true) : Memory.wf (runStages load wb count op m s).mem = true := by
  have h1 := hop (resolve load m s).address (resolve load m s).alu ((resolve load m s).advance count)
    (by simpa using resolve_wf load m h)
  unfold runStages
  dsimp only
  split
  · exact writeBack_wf _ _ _ (by simpa using h1)
  · simpa using h1

/-- The stages leave the pending set and the intercept table alone if the operation does. -/
theorem runStages_host (load wb : Bool) (count : Nat) (op : Oper) (m : Operand)
    (hop : ∀ address alu t, (op address alu t).state.pending = t.pending ∧
      (op address alu t).state.intercepts = t.intercepts) :
    (runStages load wb count op m s).pending = s.pending ∧
      (runStages load wb count op m s).intercepts = s.intercepts := by
  have h1 := hop (resolve load m s).address (resolve load m s).alu ((resolve load m s).advance count)
  have hp : ∀ (n : Mode) (a : Word) (v : Byte) (t : State),
      (writeBack n a v t).pending = t.pending ∧ (writeBack n a v t).intercepts = t.intercepts := by
    intro n a v t
    cases n <;> simp [writeBack]
  have hr : ((resolve load m s).advance count).pending = s.pending ∧
      ((resolve load m s).advance count).intercepts = s.intercepts :=
    ⟨resolve_pending s load m, resolve_intercepts s load m⟩
  unfold runStages
  dsimp only
  split
  · exact ⟨by rw [(hp _ _ _ _).1, State.addCycles_pending, h1.1, hr.1],
      by rw [(hp _ _ _ _).2, State.addCycles_intercepts, h1.2, hr.2]⟩
  · exact ⟨by rw [State.addCycles_pending, h1.1, hr.1], by rw [State.addCycles_intercepts, h1.2, hr.2]⟩

end

end Sys2Proof.Machine
end

