-- ==== Sys2Proof/Laws/Step.lean ====
section
/-!
SUPPORT. The step, case by case (40_engine_and_addressing.md R100): a stopped core, a waiting core, a
running core; what the fetch changes; what the end of a step leaves.
-/

namespace Sys2Proof.Machine

section
variable (s : State)

/-- Stage 1: a stopped step returns 0 and changes nothing else. -/
theorem step_stopped {s : State} (h : s.stopped = true) : step s = .next (s.setReturned 0) := by
  simp [step, h]

/-- Stage 2: a waiting step runs the interrupt check only. -/
theorem step_waiting {s : State} (h : s.stopped = false) (hw : s.waiting = true) :
    step s = .next (endStep (irqCheck s)) := by
  simp [step, h, hw]

/-- Stages 3 to 8: a running step whose instruction answers `t`. -/
theorem step_running {s t : State} (h : s.stopped = false) (hw : s.waiting = false)
    (he : exec (fetch s).1 (fetch s).2 = .next t) : step s = .next (endStep (irqCheck t)) := by
  simp [step, h, hw, he]

/-- What a step that answers next state `u` did: nothing, a waiting check, or one instruction. -/
theorem step_next {s u : State} (h : step s = .next u) :
    (s.stopped = true ∧ u = s.setReturned 0) ∨
    (s.stopped = false ∧ s.waiting = true ∧ u = endStep (irqCheck s)) ∨
    (s.stopped = false ∧ s.waiting = false ∧
      ∃ t, exec (fetch s).1 (fetch s).2 = .next t ∧ u = endStep (irqCheck t)) := by
  unfold step at h
  split at h
  case isTrue hs => exact .inl ⟨hs, by injection h with h; exact h.symm⟩
  case isFalse hs =>
    have hs : s.stopped = false := by simpa using hs
    split at h
    case isTrue hw => exact .inr (.inl ⟨hs, hw, by injection h with h; exact h.symm⟩)
    case isFalse hw =>
      refine .inr (.inr ⟨hs, by simpa using hw, ?_⟩)
      split at h
      · rename_i t ht
        exact ⟨t, ht, by injection h with h; exact h.symm⟩
      · cases h
      · cases h

/-! ### The fetch -/

/-- The opcode fetch changes `oldPC`, `PC` and `cycles` beside memory. -/
theorem fetchOpcode_noMem :
    (fetchOpcode s).2.noMem
      = ((s.noMem.setOldPc s.pc).setPc (s.pc + 1#16)).addCycles (baseCycles (fetchOpcode s).1) := by
  simp only [fetchOpcode, addCycles_noMem, setPc_noMem, memRead_noMem, setOldPc_noMem]

/-- The fetch changes what the opcode fetch does, and nothing else beside memory. -/
theorem fetch_noMem :
    (fetch s).2.noMem
      = ((s.noMem.setOldPc s.pc).setPc (s.pc + 1#16)).addCycles (baseCycles (fetchOpcode s).1) := by
  unfold fetch
  dsimp only
  split <;> simp only [memRead_noMem, fetchOpcode_noMem]

theorem fetch_wf {s : State} (h : Memory.wf s.mem = true) : Memory.wf (fetch s).2.mem = true := by
  have h1 : Memory.wf (fetchOpcode s).2.mem = true := memRead_wf (s := s.setOldPc s.pc) _ h
  unfold fetch
  dsimp only
  split
  · exact h1
  · exact memRead_wf _ h1
  · exact memRead_wf _ (memRead_wf _ h1)
  · exact memRead_wf _ h1

/-- The opcode fetch where no hook is bound at `PC`. -/
theorem fetchOpcode_unbound {s : State} (h : s.hookAt s.pc = none) :
    fetchOpcode s
      = (s.byteAt s.pc, ((s.setOldPc s.pc).setPc (s.pc + 1#16)).addCycles (baseCycles (s.byteAt s.pc))) := by
  have : memRead s.pc (s.setOldPc s.pc) = (s.byteAt s.pc, s.setOldPc s.pc) :=
    memRead_unbound (s := s.setOldPc s.pc) h
  simp [fetchOpcode, this]

/-- The displacement a fetch decodes a bit branch with is the byte its operation stage reads (log 12). -/
theorem peekDisplacement_eq (z d : Byte) :
    peekDisplacement z s
      = (memRead ((afterMode true (.zpr z d) s).pc - 1#16) (afterMode true (.zpr z d) s)).1 := by
  have h : s.pc + 2#16 - 1#16 = s.pc + 1#16 := by bv_omega
  have e : (afterMode true (.zpr z d) s).pc = s.pc + 2#16 := by
    simp [afterMode, Operand.mode, Mode.byteCount, Mode.layout, Layout.byteCount]
  rw [e, h]
  rfl

/-! ### The end of a step -/

@[simp] theorem endStep_cycles : (endStep s).cycles = 0 := rfl
@[simp] theorem endStep_returned : (endStep s).returned = s.cycles := rfl
@[simp] theorem endStep_mem : (endStep s).mem = s.mem := rfl
@[simp] theorem endStep_intercepts : (endStep s).intercepts = s.intercepts := rfl
@[simp] theorem endStep_pending : (endStep s).pending = s.pending := rfl

end

/-! ### The invariant at reset and under the host's memory calls -/

theorem copyBytes_wf (bytes : List Byte) {s : State} (start : Word) (h : Memory.wf s.mem = true) :
    Memory.wf (copyBytes start bytes s).mem = true := by
  induction bytes generalizing s start with
  | nil => exact h
  | cons b rest ih => exact ih _ (Memory.wf_memPut start b h)

end Sys2Proof.Machine
end

