-- ==== Sys2Proof/Certificates/Slice0/Obligations.lean ====
section
/-!
DEFINITION. The statements for the provers. `exec` starts at the addressing stage, `PC` being the
address of the byte after the opcode (40_engine_and_addressing.md R101); `afterMode` is the state after
that stage, `resolve` what it leaves in `address` and `alu`.
-/

open Sys2Proof Sys2Proof.Machine

/-- Twelve instructions, written out byte by byte from the opcode map and the operand layouts, one or more
of each family, decode to the instruction they stand for. The opcode values are decision D1 (log 1). -/
def Obligations.DecodeSanityWords : Prop :=
  decode [0xA9#8, 0x41#8] = .ok (.ldaImm 0x41#8, []) ∧
  decode [0x8D#8, 0x00#8, 0x02#8] = .ok (.staAbs 0x0200#16, []) ∧
  decode [0xAE#8, 0x00#8, 0x02#8] = .ok (.ldxAbs 0x0200#16, []) ∧
  decode [0xE8#8] = .ok (.inx, []) ∧
  decode [0x69#8, 0x50#8] = .ok (.adcImm 0x50#8, []) ∧
  decode [0x0A#8, 0xEA#8] = .ok (.aslAcc, [0xEA#8]) ∧
  decode [0xF7#8, 0x10#8] = .ok (.smb7 0x10#8, []) ∧
  decode [0xD0#8, 0xFD#8] = .ok (.bne 0xFD#8, []) ∧
  decode [0x0F#8, 0x10#8, 0x02#8] = .ok (.bbr0 0x10#8 0x02#8, []) ∧
  decode [0x6C#8, 0xFF#8, 0x01#8] = .ok (.jmpInd 0x01FF#16, []) ∧
  decode [0x48#8] = .ok (.pha, []) ∧
  decode [0x02#8] = .ok (.ill02, [])

/-- For every instruction i (all 256 rows, every operand value) and every bytes rest: i is well formed, and
decoding encode i followed by rest gives i and rest. It rests on the opcode map of decision D1 (log 1) and
the default length of illegal opcodes (log 3). -/
def Obligations.DecodeOfEncodeIsTheInstruction : Prop :=
  ∀ (i : Instr) (rest : List Byte),
    i.WellFormed = true ∧ decode (encode i ++ rest) = .ok (i, rest)

/-- For every bytes bs: if decoding bs gives instruction i and the bytes rest, then bs is encode i followed
by rest. It rests on the opcode map of decision D1 (log 1) and the default length of illegal opcodes (log
3). -/
def Obligations.EncodeOfDecodeIsTheBytes : Prop :=
  ∀ (bs : List Byte) (i : Instr) (rest : List Byte),
    decode bs = .ok (i, rest) → bs = encode i ++ rest

/-- For every opcode byte and every bytes after it, at least two: decoding succeeds, the instruction has
that opcode, and the number of operand bytes consumed is at most two and is fixed by the opcode byte alone.
-/
def Obligations.DecoderIsTotal : Prop :=
  ∀ op : Byte, ∃ n, n ≤ 2 ∧ ∀ (b1 b2 : Byte) (rest : List Byte), ∃ i,
    decode (op :: b1 :: b2 :: rest) = .ok (i, (b1 :: b2 :: rest).drop n) ∧ i.opcode = op

/-- When the core is neither stopped nor waiting, the bytes from PC decode to i, and at the addresses of
those bytes nothing but read-only regions is bound: i is well formed, exec of i, at the state with oldPC set
to PC, PC one further and the base cycles counted, answers a next state t, and the step is the interrupt
check of t followed by the return of the cycle count. That a fetch from a read-only region gives the byte
Memory holds is the model's log 8, that the fetch reads the operand bytes log 12. -/
def Obligations.StepRunsDecodedInstruction : Prop :=
  ∀ (s : State) (i : Instr) (rest : List Byte), s.stopped = false → s.waiting = false →
    decode [s.byteAt s.pc, s.byteAt (s.pc + 1#16), s.byteAt (s.pc + 2#16)] = .ok (i, rest) →
    (∀ k : Nat, k < (encode i).length →
      s.hookAt (s.pc + BitVec.ofNat 16 k) = none ∨ s.hookAt (s.pc + BitVec.ofNat 16 k) = some .rom) →
    i.WellFormed = true ∧
      ∃ t, exec i (((s.setOldPc s.pc).setPc (s.pc + 1#16)).addCycles (baseCycles i.opcode)) = .next t ∧
        step s = .next (endStep (irqCheck t))

/-- A step of a stopped core changes nothing but the returned count, which is 0. A step of a waiting core
that is not stopped is the interrupt check, after which the accumulated cycle count is returned and reset.
-/
def Obligations.StoppedAndWaitingSteps : Prop :=
  (∀ s : State, s.stopped = true → step s = .next { s with returned := 0 }) ∧
  (∀ s : State, s.stopped = false → s.waiting = true →
    step s = .next { irqCheck s with returned := (irqCheck s).cycles, cycles := 0 })

/-- For every instruction i and state s, exec i s answers a next state; and for every state s the step
answers a next state: nothing faults or is refused. -/
def Obligations.NothingFaults : Prop :=
  (∀ (i : Instr) (s : State), ∃ t, exec i s = .next t) ∧ (∀ s : State, NeverStops s)

/-- If a step of a core that is not stopped leaves it stopped, it was running and the instruction fetched
was STP; if it leaves it waiting, it was waiting before or the instruction fetched was WAI. The one host
call that makes a stopped core not stopped is resetCpu (decision D18). -/
def Obligations.OnlyStpStopsAndOnlyWaiWaits : Prop :=
  (∀ s t : State, s.stopped = false → step s = .next t →
    (t.stopped = true → s.waiting = false ∧ (fetch s).1 = .stp) ∧
    (t.waiting = true → s.waiting = true ∨ (fetch s).1 = .wai)) ∧
  (∀ (c : HostCall) (s : State), s.stopped = true → (hostCall c s).stopped = false → c = .resetCpu)

/-- State.reset meets the invariant; A, X, Y are 0, SP is FD, I is set, the core is neither stopped nor
waiting, cycles is 0; and calling resetCpu on it gives it back. That reset leaves the core not stopped, not
waiting and with no cycles is a choice, decision D18 (log 23). The fixed point rests on the model's choice
of what unwritten memory reads as (log 6). -/
def Obligations.ResetStateMeetsInvariant : Prop :=
  State.reset.Inv ∧ State.reset.a = 0x00#8 ∧ State.reset.x = 0x00#8 ∧ State.reset.y = 0x00#8 ∧
    State.reset.sp = 0xFD#8 ∧ State.reset.flags.i = true ∧ State.reset.stopped = false ∧
    State.reset.waiting = false ∧ State.reset.cycles = 0 ∧ resetCpu State.reset = State.reset

/-- If s meets the invariant (memory, intercept table and pending set in canonical form over their ranges,
cycles 0 between steps) and the step answers t, then t meets it. The canonical forms are the model's (log 6,
log 10). -/
def Obligations.StepKeepsInvariant : Prop :=
  ∀ s t : State, s.Inv → step s = .next t → t.Inv

/-- From every state that meets the invariant, every state reached by steps and host calls in any order
meets it. The canonical forms are the model's (log 6, log 10); that the host acts only between steps is log
14, that a binding out of range is refused log 18. -/
def Obligations.ReachableStatesMeetInvariant : Prop :=
  ∀ s t : State, s.Inv → Reaches s t → t.Inv

/-- If a step answers t, then t has the pending set and the intercept table of s; and if the hook bound at
an address is a read-only region's, whose write hook reports every write handled, the byte there is as
before, whatever the instruction and the interrupts. That a read of such a region leaves the byte is log 8.
-/
def Obligations.RomAndHostStateNeverChange : Prop :=
  ∀ s t : State, step s = .next t →
    t.pending = s.pending ∧ t.intercepts = s.intercepts ∧
      ∀ a : Word, s.hookAt a = some .rom → t.byteAt a = s.byteAt a

/-- If an instruction answers a next state in which a flag differs, its operation is one the flag-writer
table lists for that flag; BIT immediate never changes V. TXS, the stores, pushes, jumps, branches, NOP,
STP, WAI, the Rockwell bit instructions and the illegal opcodes change no flag. -/
def Obligations.FlagsChangeOnlyByTheirWriters : Prop :=
  ∀ (i : Instr) (s t : State), exec i s = .next t →
    (t.flags.n ≠ s.flags.n → i.form.1 ∈ ([.lda, .ldx, .ldy, .tax, .tay, .txa, .tya, .tsx, .pla, .plx, .ply, .and, .ora, .eor,
      .asl, .lsr, .rol, .ror, .inc, .dec, .inx, .iny, .dex, .dey, .adc, .sbc, .cmp, .cpx,
      .cpy, .bit, .plp, .rti] : List Operation)) ∧
    (t.flags.v ≠ s.flags.v → i.form.1 ∈ ([.adc, .sbc, .bit, .clv, .plp, .rti] : List Operation) ∧
      (i.form.1 = .bit → i.form.2.mode ≠ .imm)) ∧
    (t.flags.d ≠ s.flags.d → i.form.1 ∈ ([.sed, .cld, .plp, .rti, .brk] : List Operation)) ∧
    (t.flags.i ≠ s.flags.i → i.form.1 ∈ ([.sei, .cli, .plp, .rti, .brk] : List Operation)) ∧
    (t.flags.z ≠ s.flags.z → i.form.1 ∈ ([.lda, .ldx, .ldy, .tax, .tay, .txa, .tya, .tsx, .pla, .plx, .ply, .and, .ora, .eor,
      .asl, .lsr, .rol, .ror, .inc, .dec, .inx, .iny, .dex, .dey, .adc, .sbc, .cmp, .cpx,
      .cpy, .bit, .trb, .tsb, .plp, .rti] : List Operation)) ∧
    (t.flags.c ≠ s.flags.c → i.form.1 ∈ ([.adc, .sbc, .cmp, .cpx, .cpy, .asl, .lsr, .rol, .ror, .sec, .clc, .plp, .rti] : List Operation))

/-- If an instruction answers a next state: A, X, Y, SP, stopped, waiting differ only for the operations
that write them; PC moves past the operand bytes except for the control transfers; oldPC, the pending set,
the intercept table and the returned count never change. The accumulator changes by a shift, rotate, INC or
DEC only in its ACC form. -/
def Obligations.RegistersChangeOnlyByTheirWriters : Prop :=
  ∀ (i : Instr) (s t : State), exec i s = .next t →
    (t.a ≠ s.a → i.form.1 ∈ ([.lda, .txa, .tya, .pla, .adc, .sbc, .and, .ora, .eor] : List Operation) ∨
      (i.form.1 ∈ ([.asl, .lsr, .rol, .ror, .inc, .dec] : List Operation) ∧ i.form.2.mode = .acc)) ∧
    (t.x ≠ s.x → i.form.1 ∈ ([.ldx, .tax, .tsx, .plx, .inx, .dex] : List Operation)) ∧
    (t.y ≠ s.y → i.form.1 ∈ ([.ldy, .tay, .ply, .iny, .dey] : List Operation)) ∧
    (t.sp ≠ s.sp → i.form.1 ∈ ([.txs, .pha, .php, .phx, .phy, .pla, .plp, .plx, .ply, .jsr, .rts, .brk,
      .rti] : List Operation)) ∧
    (t.pc ≠ s.pc + BitVec.ofNat 16 (encode i).tail.length →
      i.form.1 ∈ ([.bcc, .bcs, .beq, .bne, .bmi, .bpl, .bvc, .bvs, .bra, .jmp, .jsr, .rts, .brk,
        .rti] : List Operation) ∨ (∃ n, i.form.1 = .bbr n) ∨ (∃ n, i.form.1 = .bbs n)) ∧
    (t.stopped ≠ s.stopped → i.form.1 = .stp) ∧ (t.waiting ≠ s.waiting → i.form.1 = .wai) ∧
    t.oldPc = s.oldPc ∧ t.pending = s.pending ∧ t.intercepts = s.intercepts ∧ t.returned = s.returned

/-- If an instruction answers a next state in which the byte at an address bound to no device hook (nothing
is bound there, or a read-only region) differs, then nothing is bound there, and it is a store or read-
modify-write with a memory operand and the address is its effective address, or a push and the address is
the stack slot, or JSR and it is one of its two slots, or BRK and it is one of its three slots. Every other
form changes no such byte. That reading a read-only region leaves its byte is the model's log 8. -/
def Obligations.MemoryChangesOnlyWhereStored : Prop :=
  ∀ (i : Instr) (s t : State) (b : Word), exec i s = .next t →
    (∀ id : Nat, s.hookAt b ≠ some (.oracle id)) → t.byteAt b ≠ s.byteAt b →
    s.hookAt b = none ∧
    (((i.form.1 ∈ ([.sta, .stx, .sty, .stz, .asl, .lsr, .rol, .ror, .inc, .dec, .trb, .tsb] : List Operation) ∨
        (∃ n, i.form.1 = .rmb n) ∨ (∃ n, i.form.1 = .smb n)) ∧
      i.form.2.mode ≠ .acc ∧ b = (resolve false i.form.2 s).address) ∨
    (i.form.1 ∈ ([.pha, .php, .phx, .phy] : List Operation) ∧ b = stackSlot s.sp) ∨
    (i.form.1 = .jsr ∧ (b = stackSlot s.sp ∨ b = stackSlot (s.sp - 1#8))) ∨
    (i.form.1 = .brk ∧
      (b = stackSlot s.sp ∨ b = stackSlot (s.sp - 1#8) ∨ b = stackSlot (s.sp - 2#8))))

/-- For every mode, with or without the operand load: every register, flag and control bit is unchanged; a
byte is unchanged if no device hook is bound at its address, and also if the address is one the mode does
not read, that is neither a pointer address nor the effective address. The modes are decision D2 (log 16);
that reading a read-only region leaves its byte is the model's log 8. -/
def Obligations.AddressingStageIsPure : Prop :=
  ∀ (load : Bool) (m : Operand) (s : State),
    (resolve load m s).state.noMem = s.noMem ∧
    ∀ b : Word, ((∀ id : Nat, s.hookAt b ≠ some (.oracle id)) ∨
        (b ∉ pointerReads m s ∧ b ≠ (resolve load m s).address)) →
      (resolve load m s).state.byteAt b = s.byteAt b

/-- With no intercept bound, an instruction run with another cycle count and another oldPC gives the same
next state but for those two, which carry the difference along. -/
def Obligations.CyclesAndOldPcAreNeverRead : Prop :=
  ∀ (i : Instr) (s : State) (v : Word) (k : Nat), s.intercepts = [] →
    ∃ t, exec i s = .next t ∧
      exec i ((s.setOldPc v).addCycles k) = .next ((t.setOldPc v).addCycles k)

/-- An instruction that is no branch adds to the cycle count exactly the extra of its mode: 1 for ABX and
ABY when the index crosses a page, 1 for (zp),Y when the pointer's low byte plus Y exceeds 100 hexadecimal
(with no hook at the pointer), stores and read-modify-write alike, and 0 otherwise. -/
def Obligations.ExtraCyclesOfAnInstruction : Prop :=
  (∀ (i : Instr) (s : State), i.form.2.mode ≠ .rel → i.form.2.mode ≠ .zpr →
    ∃ t, exec i s = .next t ∧ t.cycles = s.cycles + (resolve true i.form.2 s).extra) ∧
  (∀ (load : Bool) (m : Operand) (s : State), m.mode ≠ .abx → m.mode ≠ .aby → m.mode ≠ .izy →
    (resolve load m s).extra = 0) ∧
  (∀ (load : Bool) (w : Word) (s : State),
    (resolve load (.abx w) s).extra = (if w.toNat / 256 = (w.toNat + s.x.toNat) % 65536 / 256 then 0 else 1) ∧
    (resolve load (.aby w) s).extra = (if w.toNat / 256 = (w.toNat + s.y.toNat) % 65536 / 256 then 0 else 1)) ∧
  (∀ (load : Bool) (z : Byte) (s : State), s.hookAt (zeroExt z) = none → s.hookAt (zeroExt (z + 1#8)) = none →
    (resolve load (.izy z) s).extra
      = if 0x100 < (s.byteAt (zeroExt z)).toNat + s.y.toNat then 1 else 0)

/-- For ABX with X and ABY with Y, for every opcode using the mode: the effective address is the operand
word plus the index modulo 65536; the extra is 1 if the pages of operand and address differ, else 0; a load
reads the operand once at that address, and without a load nothing is read. The operand word is read once,
as a 16-bit word at the PC after the opcode. -/
def Obligations.AbsoluteIndexedAddress : Prop :=
  (∀ s : State,
    let w := memRead16 (fetchOpcode s).2.pc (fetchOpcode s).2
    ((fetch s).1.form.2.mode = .abx → (fetch s).1.form.2 = .abx w.1 ∧ (fetch s).2 = w.2) ∧
    ((fetch s).1.form.2.mode = .aby → (fetch s).1.form.2 = .aby w.1 ∧ (fetch s).2 = w.2)) ∧
  ∀ (w : Word) (s : State),
    (∀ (m : Operand) (x : Byte), (m = .abx w ∧ x = s.x) ∨ (m = .aby w ∧ x = s.y) → ∀ load : Bool,
      (resolve load m s).address.toNat = (w.toNat + x.toNat) % 65536 ∧
      (resolve load m s).extra = (if w.toNat / 256 = (w.toNat + x.toNat) % 65536 / 256 then 0 else 1) ∧
      (if load = true then
        ((resolve load m s).alu, (resolve load m s).state) = memRead (resolve load m s).address s
      else (resolve load m s).state = s))

/-- Mode IND reads the low byte at the pointer, then the high byte at the pointer plus one, or, when the
pointer's low byte is FF, at offset 0 of the same page; the address is the two bytes; no operand is loaded
under the default and no extra cycle is returned. When the low byte is not FF this is MemRead16. The pointer
is the 16-bit word read at the PC after the opcode, and only JMP, opcode 6C, has this mode. The opcode is
decision D1 (log 1); that no operand is loaded is the default of D11 (log 3). -/
def Obligations.IndirectJumpPageWrap : Prop :=
  (∀ s : State,
    let w := memRead16 (fetchOpcode s).2.pc (fetchOpcode s).2
    (fetch s).1.form.2.mode = .ind → fetch s = (.jmpInd w.1, w.2) ∧ (fetchOpcode s).1 = 0x6C#8) ∧
  ∀ (ptr : Word) (s : State),
    let q : Word := if ptr.toNat % 256 = 255 then ptr - 255#16 else ptr + 1#16
    let l := memRead ptr s
    let h := memRead q l.2
    resolve false (.ind ptr) s = ⟨h.2, mkWord h.1 l.1, 0#8, 0⟩ ∧
    (ptr.toNat % 256 ≠ 255 → ((resolve false (.ind ptr) s).address, (resolve false (.ind ptr) s).state)
      = memRead16 ptr s)

/-- Mode IZY reads the pointer's low byte at z and its high byte at z plus one within the zero page, adds Y
modulo 65536, then loads the operand unless told not to; the extra is 1 exactly when the pointer's low byte
plus Y is greater than 256. z is the byte read at the PC after the opcode. -/
def Obligations.IndirectIndexedAddress : Prop :=
  (∀ s : State,
    let z := memRead (fetchOpcode s).2.pc (fetchOpcode s).2
    (fetch s).1.form.2.mode = .izy → (fetch s).1.form.2 = .izy z.1 ∧ (fetch s).2 = z.2) ∧
  ∀ (load : Bool) (z : Byte) (s : State),
    let l := memRead (BitVec.ofNat 16 z.toNat) s
    let h := memRead (BitVec.ofNat 16 ((z.toNat + 1) % 256)) l.2
    let address := BitVec.ofNat 16 (h.1.toNat * 256 + l.1.toNat + s.y.toNat)
    let extra := if l.1.toNat + s.y.toNat > 0x100 then 1 else 0
    resolve load (.izy z) s =
      if load = true then ⟨(memRead address h.2).2, address, (memRead address h.2).1, extra⟩
      else ⟨h.2, address, 0#8, extra⟩

/-- ZP, ZPX, ZPY address the operand byte plus nothing, X or Y modulo 256; (zp,X) and (zp) read their
pointer, low byte first, at the operand byte plus X or nothing modulo 256 and at one more modulo 256; then a
load reads the operand once at the effective address, and without a load nothing more is read. Every read
goes through the hooks bound, whatever they are; no mode of these costs a cycle. The operand byte is read at
the PC after the opcode. The wraps are decisions D2 and D9 (log 16). -/
def Obligations.ZeroPageModesWrap : Prop :=
  (∀ s : State,
    let z := memRead (fetchOpcode s).2.pc (fetchOpcode s).2
    ((fetch s).1.form.2.mode = .zp → (fetch s).1.form.2 = .zp z.1 ∧ (fetch s).2 = z.2) ∧
    ((fetch s).1.form.2.mode = .zpx → (fetch s).1.form.2 = .zpx z.1 ∧ (fetch s).2 = z.2) ∧
    ((fetch s).1.form.2.mode = .zpy → (fetch s).1.form.2 = .zpy z.1 ∧ (fetch s).2 = z.2) ∧
    ((fetch s).1.form.2.mode = .izx → (fetch s).1.form.2 = .izx z.1 ∧ (fetch s).2 = z.2) ∧
    ((fetch s).1.form.2.mode = .izp → (fetch s).1.form.2 = .izp z.1 ∧ (fetch s).2 = z.2)) ∧
  ∀ (load : Bool) (z : Byte) (s : State),
    let operand : Word → State → Resolved := fun a u =>
      if load = true then ⟨(memRead a u).2, a, (memRead a u).1, 0⟩ else ⟨u, a, 0#8, 0⟩
    let pointed : Nat → Resolved := fun k =>
      let l := memRead (BitVec.ofNat 16 (k % 256)) s
      let h := memRead (BitVec.ofNat 16 ((k + 1) % 256)) l.2
      operand (BitVec.ofNat 16 (h.1.toNat * 256 + l.1.toNat)) h.2
    resolve load (.zp z) s = operand (BitVec.ofNat 16 z.toNat) s ∧
    resolve load (.zpx z) s = operand (BitVec.ofNat 16 ((z.toNat + s.x.toNat) % 256)) s ∧
    resolve load (.zpy z) s = operand (BitVec.ofNat 16 ((z.toNat + s.y.toNat) % 256)) s ∧
    resolve load (.izx z) s = pointed (z.toNat + s.x.toNat) ∧
    resolve load (.izp z) s = pointed z.toNat

/-- For every form of LDA, LDX and LDY and every state: exec answers the state after the addressing stage
with A, X or Y the operand byte and N, Z from it; nothing else changes. The bodies are decision D31 (log
15). -/
def Obligations.LoadsGiveTheOperandByte : Prop :=
  ∀ (i : Instr) (m : Operand) (s : State),
    let v := (resolve true m s).alu
    let nz : Flags := { s.flags with n := v.msb, z := decide (v = 0#8) }
    (i.form = (.lda, m) → exec i s = .next { afterMode true m s with a := v, flags := nz }) ∧
    (i.form = (.ldx, m) → exec i s = .next { afterMode true m s with x := v, flags := nz }) ∧
    (i.form = (.ldy, m) → exec i s = .next { afterMode true m s with y := v, flags := nz })

/-- For every form of the four stores and every state: exec answers t, the state after the addressing stage
(made without operand load) with one write of the register (or 0) at the effective address. In t every
register, flag and control bit is as before but PC (past the operand bytes) and the mode's extra cycles.
With canonical memory, the stored byte is at the effective address if no hook is bound there, and a byte at
any other address is unchanged if no hook is bound there or the mode does not read it. The bodies are
decision D31 (log 15). -/
def Obligations.StoresWriteTheRegister : Prop :=
  ∀ (i : Instr) (m : Operand) (v : Byte) (s : State),
    (i.form = (.sta, m) ∧ v = s.a) ∨ (i.form = (.stx, m) ∧ v = s.x) ∨ (i.form = (.sty, m) ∧ v = s.y) ∨
      (i.form = (.stz, m) ∧ v = 0x00#8) →
    let t := memWrite (resolve false m s).address v (afterMode false m s)
    exec i s = .next t ∧
      t.noMem = (s.noMem.addCycles (resolve false m s).extra).setPc (s.pc + BitVec.ofNat 16 m.mode.byteCount) ∧
      (Memory.wf s.mem = true → s.hookAt (resolve false m s).address = none →
        t.byteAt (resolve false m s).address = v) ∧
      (∀ b : Word, b ≠ (resolve false m s).address → s.hookAt b = none ∨ b ∉ pointerReads m s →
        t.byteAt b = s.byteAt b)

/-- TAX, TAY, TXA, TYA and TSX copy A, A, X, Y and SP and set N, Z from the copied byte; TXS copies X to SP
and sets no flag; INX, INY, DEX and DEY add or subtract one modulo 256 in X or Y and set N, Z from the
result; nothing else changes. The bodies are decision D31 (log 15). -/
def Obligations.TransfersAndIndexSteps : Prop :=
  ∀ s : State,
    let nz : Byte → Flags := fun v => { s.flags with n := v.msb, z := decide (v = 0#8) }
    exec .tax s = .next { s with x := s.a, flags := nz s.a } ∧
    exec .tay s = .next { s with y := s.a, flags := nz s.a } ∧
    exec .txa s = .next { s with a := s.x, flags := nz s.x } ∧
    exec .tya s = .next { s with a := s.y, flags := nz s.y } ∧
    exec .tsx s = .next { s with x := s.sp, flags := nz s.sp } ∧
    exec .txs s = .next { s with sp := s.x } ∧
    exec .inx s = .next { s with x := s.x + 1#8, flags := nz (s.x + 1#8) } ∧
    exec .iny s = .next { s with y := s.y + 1#8, flags := nz (s.y + 1#8) } ∧
    exec .dex s = .next { s with x := s.x - 1#8, flags := nz (s.x - 1#8) } ∧
    exec .dey s = .next { s with y := s.y - 1#8, flags := nz (s.y - 1#8) }

/-- For a sum r from 0 to 511 the carry after an addition is bit 8 of r, that is r at least 256; for a
difference r from -256 to 255 the carry after a subtraction is the complement of bit 8 of r in two's
complement, that is r not negative. -/
def Obligations.CarryIsBitEight : Prop :=
  (∀ r : Nat, r < 512 → carryFromAdd r = r.testBit 8 ∧ (carryFromAdd r = true ↔ 256 ≤ r)) ∧
  (∀ r : Int, -256 ≤ r → r < 256 →
    carryFromSub r = (! (BitVec.ofInt 9 r).getLsbD 8) ∧ (carryFromSub r = true ↔ 0 ≤ r))

/-- With D clear, for every form of ADC and SBC: A is A + M + C, or A - M - (1 - C), modulo 256; C is
whether the sum reaches 256, or whether the difference is not negative; V is whether the signed reading of
the result differs from the exact signed sum or difference; N and Z are from the result; nothing else
changes beyond the addressing stage. The formulas are decision D5 (log 15). -/
def Obligations.BinaryAdcAndSbc : Prop :=
  ∀ (i : Instr) (m : Operand) (s : State), s.flags.d = false →
    let v := (resolve true m s).alu
    let c := s.flags.c.toNat
    let sum : Nat := s.a.toNat + v.toNat + c
    let dif : Int := (s.a.toNat : Int) - v.toNat - (1 - c)
    let out : Byte → Int → Bool → State := fun r exact carry => { afterMode true m s with
      a := r,
      flags := { s.flags with n := r.msb, z := decide (r = 0#8), c := carry, v := decide (r.toInt ≠ exact) } }
    (i.form = (.adc, m) → exec i s
      = .next (out (BitVec.ofNat 8 sum) (s.a.toInt + v.toInt + c) (decide (256 ≤ sum)))) ∧
    (i.form = (.sbc, m) → exec i s
      = .next (out (BitVec.ofInt 8 dif) (s.a.toInt - v.toInt - (1 - c)) (decide (0 ≤ dif))))

/-- With D set, for every form of ADC and SBC and every operand, valid BCD or not: the result and N V Z C of
ADC are those of the algorithm written out with the masks 0F and F0; the result, N and Z of SBC are those of
its algorithm and its C and V those of the binary difference; D and I are unchanged. The algorithms are
decisions D6 and D7, the carry convention that of conflict C3 (log 4). -/
def Obligations.DecimalAlgorithms : Prop :=
  ∀ (i : Instr) (m : Operand) (s : State), s.flags.d = true →
    let v := (resolve true m s).alu
    let aLo : Nat := s.a.toNat &&& 0x0F
    let aHi : Nat := s.a.toNat &&& 0xF0
    let mLo : Nat := v.toNat &&& 0x0F
    let mHi : Nat := v.toNat &&& 0xF0
    (i.form = (.adc, m) →
      let al0 : Nat := aLo + mLo + s.flags.c.toNat
      let al : Nat := if al0 ≥ 0x0A then ((al0 + 0x06) &&& 0x0F) + 0x10 else al0
      let t0 : Nat := aHi + mHi + al
      let t1 : Nat := if t0 ≥ 0xA0 then t0 + 0x60 else t0
      let r : Byte := BitVec.ofNat 8 (t1 &&& 0xFF)
      exec i s = .next { afterMode true m s with
        a := r,
        flags := { s.flags with
          n := r.msb, z := decide (r = 0#8), c := decide (t1 ≥ 0x100),
          v := decide ((s.a.toNat.testBit 7 = v.toNat.testBit 7) ∧ s.a.toNat.testBit 7 ≠ t0.testBit 7) } }) ∧
    (i.form = (.sbc, m) →
      let b : Int := 1 - (s.flags.c.toNat : Int)
      let d : Int := (s.a.toNat : Int) - v.toNat - b
      let al0 : Int := (aLo : Int) - (mLo : Int) - b
      let al : Int := if al0 < 0 then (al0 - 0x06) % 16 - 0x10 else al0
      let r0 : Int := (aHi : Int) - (mHi : Int) + al
      let r1 : Int := if r0 < 0 then r0 - 0x60 else r0
      let r : Byte := BitVec.ofInt 8 r1
      exec i s = .next { afterMode true m s with
        a := r,
        flags := { s.flags with
          n := r.msb, z := decide (r = 0#8), c := decide (0 ≤ d),
          v := decide ((s.a.msb ≠ v.msb) ∧ s.a.msb ≠ (BitVec.ofInt 8 d).msb) } })

/-- With D set and both operands valid BCD: ADC leaves the valid BCD of the decimal sum modulo 100 with C
set exactly when the sum reaches 100; SBC leaves the valid BCD of the decimal difference modulo 100 with C
set exactly when there is no borrow. It rests on decisions D6 and D7 (log 4). -/
def Obligations.DecimalArithmeticOnValidBcd : Prop :=
  ∀ (i : Instr) (m : Operand) (s : State), s.flags.d = true →
    let v := (resolve true m s).alu
    let dec : Byte → Nat := fun b => 10 * (b.toNat / 16) + b.toNat % 16
    let bcd : Byte → Prop := fun b => b.toNat / 16 ≤ 9 ∧ b.toNat % 16 ≤ 9
    bcd s.a → bcd v →
    (i.form = (.adc, m) → ∃ t, exec i s = .next t ∧ bcd t.a ∧
      dec t.a = (dec s.a + dec v + s.flags.c.toNat) % 100 ∧
      t.flags.c = decide (100 ≤ dec s.a + dec v + s.flags.c.toNat)) ∧
    (i.form = (.sbc, m) → ∃ t, exec i s = .next t ∧ bcd t.a ∧
      (dec t.a : Int) = ((dec s.a : Int) - dec v - (1 - s.flags.c.toNat)) % 100 ∧
      t.flags.c = decide (0 ≤ (dec s.a : Int) - dec v - (1 - s.flags.c.toNat)))

/-- For every form of the compares: C is whether the register is at least M unsigned, Z whether they are
equal, N is bit 7 of their difference modulo 256; V, D, I and every register are unchanged, and the result
does not depend on D or the carry in. It rests on decisions D8 and D34 (log 15). -/
def Obligations.ComparesAreUnsignedAndStoreNothing : Prop :=
  ∀ (i : Instr) (m : Operand) (s : State),
    let v := (resolve true m s).alu
    let cmp : Byte → State := fun r => { afterMode true m s with
      flags := { s.flags with n := (r - v).msb, z := decide (r = v), c := decide (v.toNat ≤ r.toNat) } }
    (i.form = (.cmp, m) → exec i s = .next (cmp s.a)) ∧
    (i.form = (.cpx, m) → exec i s = .next (cmp s.x)) ∧
    (i.form = (.cpy, m) → exec i s = .next (cmp s.y))

/-- For every form of INC and DEC: the operand plus or minus one modulo 256 is written back, to A in the ACC
form and to the effective address otherwise; N and Z are from it; C, V, D, I are unchanged. The bodies are
decision D31 (log 15). -/
def Obligations.IncrementAndDecrementOperand : Prop :=
  ∀ (i : Instr) (m : Operand) (s : State),
    let out : Byte → State := fun r =>
      let u : State := { afterMode true m s with flags := { s.flags with n := r.msb, z := decide (r = 0#8) } }
      if m = .acc then { u with a := r } else memWrite (resolve true m s).address r u
    (i.form = (.inc, m) → exec i s = .next (out (BitVec.ofNat 8 ((resolve true m s).alu.toNat + 1)))) ∧
    (i.form = (.dec, m) → exec i s = .next (out (BitVec.ofNat 8 ((resolve true m s).alu.toNat + 255))))

/-- For every form: AND, ORA and EOR put the bitwise and, or, exclusive or of A and the operand into A and
set N, Z from it. BIT sets Z to whether A and M is zero, N to bit 7 of M (not of A and M), and V to bit 6 of
M in the memory forms, V being unchanged in the immediate form. Nothing else changes beyond the addressing
stage. The bodies are decision D31 (log 15); that BIT immediate writes N is decision D33 (log 3). -/
def Obligations.LogicAndBitTest : Prop :=
  ∀ (i : Instr) (m : Operand) (s : State),
    let v := (resolve true m s).alu
    let out : Byte → State := fun r => { afterMode true m s with
      a := r, flags := { s.flags with n := r.msb, z := decide (r = 0#8) } }
    (i.form = (.and, m) → exec i s = .next (out (s.a &&& v))) ∧
    (i.form = (.ora, m) → exec i s = .next (out (s.a ||| v))) ∧
    (i.form = (.eor, m) → exec i s = .next (out (s.a ^^^ v))) ∧
    (i.form = (.bit, m) → exec i s = .next { afterMode true m s with
      flags := { s.flags with
        n := v.getLsbD 7, v := if m.mode = .imm then s.flags.v else v.getLsbD 6,
        z := decide (s.a &&& v = 0#8) } })

/-- For every form: ASL doubles modulo 256, LSR halves, ROL doubles and adds the old carry, ROR halves and
puts the old carry at bit 7; C is the bit shifted out, N and Z are from the result, V is unchanged; the
result goes to A in the ACC form and to the effective address otherwise. The bodies are decision D31 (log
15). -/
def Obligations.ShiftsAndRotates : Prop :=
  ∀ (i : Instr) (m : Operand) (s : State),
    let v := (resolve true m s).alu.toNat
    let c := s.flags.c.toNat
    let out : Nat → Bool → State := fun n carry =>
      let r : Byte := BitVec.ofNat 8 n
      let u : State := { afterMode true m s with
        flags := { s.flags with n := r.msb, z := decide (r = 0#8), c := carry } }
      if m = .acc then { u with a := r } else memWrite (resolve true m s).address r u
    (i.form = (.asl, m) → exec i s = .next (out (2 * v) (v.testBit 7))) ∧
    (i.form = (.lsr, m) → exec i s = .next (out (v / 2) (v.testBit 0))) ∧
    (i.form = (.rol, m) → exec i s = .next (out (2 * v + c) (v.testBit 7))) ∧
    (i.form = (.ror, m) → exec i s = .next (out (v / 2 + 128 * c) (v.testBit 0)))

/-- For every form: the byte read is written back at the same address with the bits of A cleared (TRB) or
set (TSB), or with bit n cleared (RMBn) or set (SMBn), every other bit as it was. TRB and TSB set Z to
whether A and the byte, before the change, have no bit in common; RMBn and SMBn change no flag. No register
changes but PC. The bodies are decision D31 (log 15), the opcodes decision D1 (log 1). -/
def Obligations.MemoryBitOperations : Prop :=
  ∀ (i : Instr) (n : Fin 8) (m : Operand) (s : State),
    let v := (resolve true m s).alu
    let write : Byte → State → State := fun r u => memWrite (resolve true m s).address r u
    let tested : State := { afterMode true m s with flags := { s.flags with z := decide (s.a &&& v = 0#8) } }
    (i.form = (.trb, m) → ∃ r, exec i s = .next (write r tested) ∧
      ∀ k, k < 8 → r.getLsbD k = (v.getLsbD k && !s.a.getLsbD k)) ∧
    (i.form = (.tsb, m) → ∃ r, exec i s = .next (write r tested) ∧
      ∀ k, k < 8 → r.getLsbD k = (v.getLsbD k || s.a.getLsbD k)) ∧
    (i.form = (.rmb n, m) → ∃ r, exec i s = .next (write r (afterMode true m s)) ∧
      ∀ k, k < 8 → r.getLsbD k = (if k = n.val then false else v.getLsbD k)) ∧
    (i.form = (.smb n, m) → ∃ r, exec i s = .next (write r (afterMode true m s)) ∧
      ∀ k, k < 8 → r.getLsbD k = (if k = n.val then true else v.getLsbD k))

/-- For each branch and displacement: when its flag condition holds, PC is the next instruction's address
plus the signed displacement modulo 65536, at 1 extra cycle, or 2 when the target's page is not the next
instruction's; otherwise PC is the next instruction and no cycle is added; nothing else changes. The
conditions are decision D31 (log 15). -/
def Obligations.RelativeBranches : Prop :=
  ∀ (d : Byte) (s : State),
    let next := s.pc + 1#16
    let target : Word := BitVec.ofInt 16 ((next.toNat : Int) + d.toInt)
    let cost : Nat := if target.toNat / 256 = next.toNat / 256 then 1 else 2
    let br : Bool → State := fun cond =>
      if cond = true then { s with pc := target, cycles := s.cycles + cost } else { s with pc := next }
    exec (.bcc d) s = .next (br (!s.flags.c)) ∧ exec (.bcs d) s = .next (br s.flags.c) ∧
    exec (.bne d) s = .next (br (!s.flags.z)) ∧ exec (.beq d) s = .next (br s.flags.z) ∧
    exec (.bpl d) s = .next (br (!s.flags.n)) ∧ exec (.bmi d) s = .next (br s.flags.n) ∧
    exec (.bvc d) s = .next (br (!s.flags.v)) ∧ exec (.bvs d) s = .next (br s.flags.v) ∧
    exec (.bra d) s = .next (br true)

/-- For every n: the zero-page byte is read, then the displacement byte, taken or not; BBRn is taken when
bit n is 0, BBSn when it is 1; the target is the next instruction's address plus the signed displacement
modulo 65536 at 1 or 2 extra cycles; no flag, register or byte is written beyond what the two reads mirror.
Of a fetched instruction the zero-page address is the byte read at the PC after the opcode and the
displacement the byte that the later read returns, the fetch making the first read only; that the
displacement is decoded ahead of its read is the model's log 12, so exec run outside a step uses the
displacement in the instruction. The layout and the order of the reads are decision D12, the page compared
with decision D13 (both log 16). -/
def Obligations.RockwellBitBranches : Prop :=
  (∀ s : State,
    let z := memRead (fetchOpcode s).2.pc (fetchOpcode s).2
    let r := memRead (BitVec.ofNat 16 z.1.toNat) z.2
    let d := memRead (z.2.pc + 1#16) (r.2.setPc (z.2.pc + 2#16))
    (fetch s).1.form.2.mode = .zpr → (fetch s).1.form.2 = .zpr z.1 d.1 ∧ (fetch s).2 = z.2) ∧
  ∀ (i : Instr) (n : Fin 8) (z d : Byte) (s : State),
    let next := s.pc + 2#16
    let r := memRead (BitVec.ofNat 16 z.toNat) s
    let u := (memRead (s.pc + 1#16) (r.2.setPc next)).2
    let target : Word := BitVec.ofInt 16 ((next.toNat : Int) + d.toInt)
    let cost : Nat := if target.toNat / 256 = next.toNat / 256 then 1 else 2
    let br : Bool → State := fun cond =>
      if cond = true then (u.setPc target).addCycles cost else u
    (i.form = (.bbr n, .zpr z d) → exec i s = .next (br (!r.1.getLsbD n.val))) ∧
    (i.form = (.bbs n, .zpr z d) → exec i s = .next (br (r.1.getLsbD n.val)))

/-- JMP absolute sets PC to the operand; JMP (ptr) to the word whose low byte is at ptr and whose high byte
is at ptr plus one within the same page; JMP (ptr,X) to the word at ptr plus X modulo 65536. JSR pushes the
high then the low byte of the address of its own last byte and sets PC to the operand; RTS pops the low then
the high byte and sets PC to that address plus one modulo 65536. Nothing else changes. The pushed order is
decision D35 (log 22); that a target is not read is decision D11 (log 3). -/
def Obligations.JumpsCallAndReturn : Prop :=
  ∀ (w : Word) (s : State),
    let q : Word := if w.toNat % 256 = 255 then w - 255#16 else w + 1#16
    let l := memRead w s
    let h := memRead q l.2
    let p := memRead16 (BitVec.ofNat 16 (w.toNat + s.x.toNat)) s
    exec (.jmpAbs w) s = .next { s with pc := w } ∧
    exec (.jmpInd w) s = .next { h.2 with pc := BitVec.ofNat 16 (h.1.toNat * 256 + l.1.toNat) } ∧
    exec (.jmpIax w) s = .next { p.2 with pc := p.1 } ∧
    exec (.jsr w) s = .next ((push (loByte (s.pc + 1#16))
      (push (hiByte (s.pc + 1#16)) (s.setPc (s.pc + 2#16)))).setPc w) ∧
    exec .rts s = .next ((pop (pop s).2).2.setPc (mkWord (pop (pop s).2).1 (pop s).1 + 1#16))

/-- Push writes the byte at the address 0100 plus SP through the intercept path and then decrements SP
modulo 256, so 00 becomes FF; Pop first increments SP modulo 256, so FF becomes 00, and then reads at 0100
plus SP, erasing nothing. There is no overflow or underflow condition. -/
def Obligations.PushAndPop : Prop :=
  ∀ s : State,
    (∀ v : Byte, push v s =
      (memWrite (BitVec.ofNat 16 (0x0100 + s.sp.toNat)) v s).setSp (BitVec.ofNat 8 (s.sp.toNat + 255))) ∧
    pop s = memRead (BitVec.ofNat 16 (0x0100 + (s.sp.toNat + 1) % 256))
      (s.setSp (BitVec.ofNat 8 (s.sp.toNat + 1)))

/-- With canonical memory and no hook in the stack page: pushing any list of at most 256 bytes and popping
as many returns them last first and restores SP, across both wrap edges; a 16-bit value is pushed high byte
first and popped low byte first, which is decision D35 (log 22). -/
def Obligations.StackIsLastInFirstOut : Prop :=
  (∀ (bs : List Byte) (s : State), bs.length ≤ 256 → Memory.wf s.mem = true →
    (∀ k : Byte, s.hookAt (stackSlot k) = none) →
    (popAll bs.length (pushAll bs s)).1 = bs.reverse ∧ (popAll bs.length (pushAll bs s)).2.sp = s.sp) ∧
  (∀ (w : Word) (s : State), push16 w s = push (loByte w) (push (hiByte w) s) ∧
    pop16 s = (mkWord (pop (pop s).2).1 (pop s).1, (pop (pop s).2).2))

/-- Each push instruction pushes A, X, Y or the flags byte (Break and Unused set whatever the flags are) and
changes nothing else. PLA, PLX and PLY pop a byte into A, X or Y and set N and Z from it; PLP pops a byte
and takes the six flags from bits 7, 6, 3, 2, 1, 0, ignoring bits 5 and 4; nothing else changes but SP. That
the pulls set N and Z is decision D31 (log 15), the layout decision D4 (log 2). -/
def Obligations.PushAndPullInstructions : Prop :=
  ∀ s : State,
    let v := (pop s).1
    let u := (pop s).2
    let nz : Flags := { s.flags with n := v.msb, z := decide (v = 0#8) }
    exec .pha s = .next (push s.a s) ∧ exec .phx s = .next (push s.x s) ∧
    exec .phy s = .next (push s.y s) ∧ exec .php s = .next (push (flagsByte s.flags true) s) ∧
    (flagsByte s.flags true).getLsbD 4 = true ∧ (flagsByte s.flags true).getLsbD 5 = true ∧
    exec .pla s = .next { u with a := v, flags := nz } ∧
    exec .plx s = .next { u with x := v, flags := nz } ∧
    exec .ply s = .next { u with y := v, flags := nz } ∧
    exec .plp s = .next { u with flags :=
      ⟨v.getLsbD 7, v.getLsbD 6, v.getLsbD 3, v.getLsbD 2, v.getLsbD 1, v.getLsbD 0⟩ }

/-- Each flag instruction sets or clears its one flag, STP sets stopped, WAI sets waiting, and each changes
nothing else; NOP changes nothing (PC is already past the opcode). The bodies are decision D31 (log 15). -/
def Obligations.OneBitInstructionsAndNop : Prop :=
  ∀ s : State,
    exec .clc s = .next { s with flags := { s.flags with c := false } } ∧
    exec .cld s = .next { s with flags := { s.flags with d := false } } ∧
    exec .cli s = .next { s with flags := { s.flags with i := false } } ∧
    exec .clv s = .next { s with flags := { s.flags with v := false } } ∧
    exec .sec s = .next { s with flags := { s.flags with c := true } } ∧
    exec .sed s = .next { s with flags := { s.flags with d := true } } ∧
    exec .sei s = .next { s with flags := { s.flags with i := true } } ∧
    exec .stp s = .next { s with stopped := true } ∧
    exec .wai s = .next { s with waiting := true } ∧
    exec .nop s = .next s

/-- For any byte b and either Break value, the flags byte of the flags taken from b is b and CF, with bit 5
set and bit 4 the Break value; and the flags taken from a flags byte are the six flags it was formed from.
The bit positions are decision D4 (log 2). -/
def Obligations.FlagsByteRoundTrip : Prop :=
  (∀ (b : Byte) (brk : Bool),
    flagsByte (flagsOfByte b) brk = (b &&& 0xCF#8) ||| 0x20#8 ||| (if brk = true then 0x10#8 else 0x00#8)) ∧
  (∀ (f : Flags) (brk : Bool), flagsOfByte (flagsByte f brk) = f)

/-- The entry pushes the high byte of PC, its low byte, and the flags byte with the given Break bit and the
flags as they were, then reads the vector's low byte and high byte into PC, clears D and sets I; N, V, Z, C,
A, X, Y and everything else are unchanged, SP is three lower modulo 256. -/
def Obligations.InterruptEntrySequence : Prop :=
  ∀ (vector : Word) (brk : Bool) (s : State),
    let p := push (flagsByte s.flags brk) (push (loByte s.pc) (push (hiByte s.pc) s))
    let l := memRead vector p
    let h := memRead (vector + 1#16) l.2
    interrupt vector brk s
      = { h.2 with pc := mkWord h.1 l.1, flags := { s.flags with d := false, i := true } } ∧
    (interrupt vector brk s).noMem = ((s.noMem.setSp (BitVec.ofNat 8 (s.sp.toNat + 253))).setPc (mkWord h.1 l.1)).setFlags
      { s.flags with d := false, i := true }

/-- With canonical memory and no hook at the three stack slots: after the entry the slots at SP, SP - 1 and
SP - 2 hold the high byte of PC, its low byte and the flags byte; every other byte at which no hook is bound
is unchanged; and with no hook at the vector, which lies outside the stack page, PC is the vector's little-
endian word. -/
def Obligations.InterruptFrameOnTheStack : Prop :=
  ∀ (vector : Word) (brk : Bool) (s : State), Memory.wf s.mem = true →
    s.hookAt (stackSlot s.sp) = none → s.hookAt (stackSlot (s.sp - 1#8)) = none →
    s.hookAt (stackSlot (s.sp - 2#8)) = none →
    (interrupt vector brk s).byteAt (stackSlot s.sp) = hiByte s.pc ∧
    (interrupt vector brk s).byteAt (stackSlot (s.sp - 1#8)) = loByte s.pc ∧
    (interrupt vector brk s).byteAt (stackSlot (s.sp - 2#8)) = flagsByte s.flags brk ∧
    (∀ b : Word, s.hookAt b = none → b ≠ stackSlot s.sp → b ≠ stackSlot (s.sp - 1#8) →
      b ≠ stackSlot (s.sp - 2#8) → (interrupt vector brk s).byteAt b = s.byteAt b) ∧
    (s.hookAt vector = none → s.hookAt (vector + 1#16) = none → hiByte vector ≠ 0x01#8 →
      hiByte (vector + 1#16) ≠ 0x01#8 →
      (interrupt vector brk s).pc = mkWord (s.byteAt (vector + 1#16)) (s.byteAt vector))

/-- BRK is the one byte 00, at base cost 7; with PC the address after it, it pushes the high and low byte of
PC plus one and the flags byte with Break set and the flags as before, loads PC from FFFE, clears D and sets
I; no condition on I is made, and nothing is added to the cycles. The opcode is decision D1 (log 1), the
layout D4 (log 2), the 7 decision D15 (log 3). -/
def Obligations.BrkEntersThroughTheIrqVector : Prop :=
  encode .brk = [0x00#8] ∧ baseCycles 0x00#8 = 7 ∧
  ∀ s : State,
    let ret := s.pc + 1#16
    let p := push (flagsByte s.flags true) (push (loByte ret) (push (hiByte ret) (s.setPc ret)))
    let r := memRead16 0xFFFE#16 p
    exec .brk s = .next { r.2 with pc := r.1, flags := { s.flags with d := false, i := true } } ∧
    r.2.cycles = s.cycles

/-- RTI pops a byte and takes the six flags from bits 7, 6, 3, 2, 1, 0, then pops the low and the high byte
of PC, which is used verbatim; nothing else changes but SP. The order is decision D35 (log 22), the places
of the flags decision D4 (log 2). -/
def Obligations.RtiRestoresFlagsThenPc : Prop :=
  ∀ s : State,
    let f := pop s
    let u := f.2.setFlags
      ⟨f.1.getLsbD 7, f.1.getLsbD 6, f.1.getLsbD 3, f.1.getLsbD 2, f.1.getLsbD 1, f.1.getLsbD 0⟩
    let l := pop u
    let h := pop l.2
    exec .rti s = .next (h.2.setPc (mkWord h.1 l.1))

/-- With canonical memory and no hook at the stack slots used: RTI executed in the state an entry leaves,
through any vector and with either Break value, restores PC, SP and the six flags; RTS executed at the
target of a JSR leaves SP as before the JSR and PC at the instruction after it. A, X, Y are as before,
wherever SP wraps. -/
def Obligations.ReturnsUndoCallAndInterrupt : Prop :=
  ∀ s : State, Memory.wf s.mem = true →
    s.hookAt (stackSlot s.sp) = none → s.hookAt (stackSlot (s.sp - 1#8)) = none →
    (∀ (vector : Word) (brk : Bool), s.hookAt (stackSlot (s.sp - 2#8)) = none →
      ∃ t, exec .rti (interrupt vector brk s) = .next t ∧
        t.pc = s.pc ∧ t.sp = s.sp ∧ t.flags = s.flags ∧ t.a = s.a ∧ t.x = s.x ∧ t.y = s.y) ∧
    (∀ w : Word, ∃ t u, exec (.jsr w) s = .next t ∧ exec .rts (t.setPc (t.pc + 1#16)) = .next u ∧
      u.pc = s.pc + 2#16 ∧ u.sp = s.sp ∧ u.flags = s.flags ∧ u.a = s.a ∧ u.x = s.x ∧ u.y = s.y)

/-- With no source pending the check does nothing; with a source pending and I set it only ends a wait; with
a source pending and I clear it enters through FFFE with Break clear, ends a wait and adds the entry cycles
(7). It never changes the pending set. The masked wake and the 7 are decisions D17 and D14 (log 3). -/
def Obligations.InterruptCheck : Prop :=
  ∀ s : State,
    (s.pending = [] → irqCheck s = s) ∧
    (s.pending ≠ [] → s.flags.i = true → irqCheck s = s.setWaiting false) ∧
    (s.pending ≠ [] → s.flags.i = false →
      irqCheck s = ((interrupt 0xFFFE#16 false s).setWaiting false).addCycles 7) ∧
    (irqCheck s).pending = s.pending

/-- For every illegal opcode and state: exec answers the same state, and its base cycle count is 0. One byte
and zero cycles are the defaults of decision D3 (log 3). -/
def Obligations.IllegalOpcodesDoNothing : Prop :=
  ∀ (i : Instr) (m : Operand) (s : State), i.form = (.ill, m) →
    exec i s = .next s ∧ encode i = [i.opcode] ∧ baseCycles i.opcode = 0

/-- The call performs the interrupt entry through FFFA with Break clear and clears waiting; it leaves
stopped, cycles, oldPC and the pending set alone. That it sets I and clears D is decision D16 (log 19). -/
def Obligations.NonMaskableInterruptCall : Prop :=
  ∀ s : State,
    nonMaskableInterrupt s = (interrupt 0xFFFA#16 false s).setWaiting false ∧
    (nonMaskableInterrupt s).stopped = s.stopped ∧ (nonMaskableInterrupt s).cycles = s.cycles ∧
    (nonMaskableInterrupt s).oldPc = s.oldPc ∧ (nonMaskableInterrupt s).pending = s.pending ∧
    (nonMaskableInterrupt s).waiting = false ∧ (nonMaskableInterrupt s).flags.i = true

/-- After raiseMaskableInterrupt(k) the pending sources are k and those before; raising a source already in
the set, in canonical form, changes nothing; the aggregate is then pending; no other state changes. -/
def Obligations.RaisingASourceIsUnion : Prop :=
  ∀ (k : SourceId) (s : State),
    (∀ j : SourceId, j ∈ (raiseMaskableInterrupt k s).pending ↔ j = k ∨ j ∈ s.pending) ∧
    (pendingWf s.pending = true → k ∈ s.pending → raiseMaskableInterrupt k s = s) ∧
    (raiseMaskableInterrupt k s).pending ≠ [] ∧
    (raiseMaskableInterrupt k s).setPending s.pending = s

/-- In a state whose pending set is canonical: after clearMaskableInterrupt(k) the pending sources are those
before except k; clearing a source not in the set changes nothing; no other state changes. -/
def Obligations.ClearingASourceIsDifference : Prop :=
  ∀ (k : SourceId) (s : State), pendingWf s.pending = true →
    (∀ j : SourceId, j ∈ (clearMaskableInterrupt k s).pending ↔ j ∈ s.pending ∧ j ≠ k) ∧
    (k ∉ s.pending → clearMaskableInterrupt k s = s) ∧
    (clearMaskableInterrupt k s).setPending s.pending = s

/-- For every state: resetCpu sets A, X, Y to 0, SP to FD and I, ends stop and wait, sets cycles to 0, and
then PC to the 16-bit word read at FFFC through the intercept path, whatever hooks are bound there; with
none it is the word Memory holds. N, V, D, Z, C, oldPC, the pending set and the intercept table are
unchanged, and so is every byte but those at FFFC and FFFD where a hook is bound. Clearing stopped, waiting
and cycles is decision D18 (log 23). -/
def Obligations.ResetCpuCall : Prop :=
  ∀ s : State,
    let t : State := { s with
      a := 0x00#8, x := 0x00#8, y := 0x00#8, sp := 0xFD#8, flags := { s.flags with i := true },
      stopped := false, waiting := false, cycles := 0 }
    let r := memRead16 0xFFFC#16 t
    resetCpu s = { r.2 with pc := r.1 } ∧
    (resetCpu s).noMem = { t.noMem with pc := r.1 } ∧
    (s.hookAt 0xFFFC#16 = none → s.hookAt 0xFFFD#16 = none →
      resetCpu s = { t with pc := mkWord (s.byteAt 0xFFFD#16) (s.byteAt 0xFFFC#16) }) ∧
    (∀ b : Word, s.hookAt b = none ∨ (b ≠ 0xFFFC#16 ∧ b ≠ 0xFFFD#16) → (resetCpu s).byteAt b = s.byteAt b)

/-- After setPC(address) PC is the address and every other piece of state is as before. -/
def Obligations.SetPcCall : Prop :=
  ∀ (address : Word) (s : State), setPC address s = { s with pc := address }

/-- copyBytes writes its bytes one after the other at consecutive addresses modulo 65536 and calls no hook;
so, with canonical memory and at most 65536 bytes, byte k stands at start plus k and every byte outside is
unchanged; nothing but memory changes. -/
def Obligations.CopyBytesCall : Prop :=
  (∀ (start : Word) (s : State), copyBytes start [] s = s) ∧
  (∀ (start : Word) (b : Byte) (rest : List Byte) (s : State),
    copyBytes start (b :: rest) s = copyBytes (start + 1#16) rest (s.putByte start b)) ∧
  (∀ (start : Word) (bytes : List Byte) (s : State),
    (copyBytes start bytes s).setMem s.mem = s) ∧
  (∀ (start : Word) (bytes : List Byte) (s : State), bytes.length ≤ 65536 → Memory.wf s.mem = true →
    (∀ k, k < bytes.length →
      (copyBytes start bytes s).byteAt (start + BitVec.ofNat 16 k) = bytes.getD k 0#8) ∧
    (∀ b : Word, (∀ k, k < bytes.length → b ≠ start + BitVec.ofNat 16 k) →
      (copyBytes start bytes s).byteAt b = s.byteAt b))

/-- In range, after bindRange the handler is bound at exactly the addresses of the range and the other
bindings are as before; out of range, or empty, nothing changes. bindIntercept does so for one address.
After clearRange, on a canonical table, nothing is bound at the addresses of the range and the other
bindings are as before. Memory and registers never change. Refusal is decision D20, what clearRange does
with bounds the model's (log 18). -/
def Obligations.BindingARange : Prop :=
  (∀ (start len : Nat) (h : Hook) (s : State),
    (start + len ≤ 65536 → ∀ a : Word, (bindRange start len h s).hookAt a
      = if start ≤ a.toNat ∧ a.toNat < start + len then some h else s.hookAt a) ∧
    (¬ (start < 65536 ∧ 0 < len ∧ start + len ≤ 65536) → bindRange start len h s = s) ∧
    (bindRange start len h s).setIntercepts s.intercepts = s) ∧
  (∀ (addr : Nat) (h : Hook) (s : State),
    (addr < 65536 → ∀ a : Word, (bindIntercept addr h s).hookAt a
      = if a.toNat = addr then some h else s.hookAt a) ∧
    (65536 ≤ addr → bindIntercept addr h s = s) ∧
    (bindIntercept addr h s).setIntercepts s.intercepts = s) ∧
  (∀ (start len : Nat) (s : State),
    (interceptsWf s.intercepts = true → ∀ a : Word, (clearRange start len s).hookAt a
      = if start ≤ a.toNat ∧ a.toNat < start + len then none else s.hookAt a) ∧
    (clearRange start len s).setIntercepts s.intercepts = s)

/-- In a state with canonical memory, for every address with no hook and every byte v: a read after the
write gives v, and every other byte is as before. -/
def Obligations.MemoryRoundTrip : Prop :=
  ∀ (s : State) (a : Word) (v : Byte), Memory.wf s.mem = true → s.hookAt a = none →
    (memRead a (memWrite a v s)).1 = v ∧ (memWrite a v s).noMem = s.noMem ∧
      ∀ b : Word, b ≠ a → (memWrite a v s).byteAt b = s.byteAt b

/-- Where nothing is bound a read returns the byte and changes nothing, and a write stores. Where a device's
hook is bound, with canonical memory, a read returns the hook's byte and leaves it mirrored in Memory, and a
write that the hook handles leaves Memory alone while another stores. In a read-only region a write changes
nothing and a read returns the byte Memory holds and changes nothing (log 8). The host's writeMemory,
readMemoryByte and readMemoryWord are that write, that read, and two such reads, low byte first, the address
wrapping (decision D21, log 21). The answers are free values (log 7), and a device call is counted (the
model's own field). -/
def Obligations.InterceptPath : Prop :=
  ∀ (s : State) (a : Word) (v : Byte),
    (s.hookAt a = none → memRead a s = (s.byteAt a, s) ∧ memWrite a v s = s.putByte a v) ∧
    (∀ id : Nat, s.hookAt a = some (.oracle id) →
      let b := Config.hookReadByte id s.hookCalls a s.context
      let t := s.setHookCalls (s.hookCalls + 1)
      (Memory.wf s.mem = true → memRead a s = (b, t.putByte a b) ∧ (memRead a s).2.byteAt a = b) ∧
      memWrite a v s =
        if Config.hookWriteHandled id s.hookCalls v a s.context = true then t else t.putByte a v) ∧
    (s.hookAt a = some .rom → memRead a s = (s.byteAt a, s) ∧ memWrite a v s = s) ∧
    (hostCall (.writeMemory a v) s = memWrite a v s ∧ writeMemory a v s = memWrite a v s) ∧
    (hostCall (.readMemoryByte a) s = (memRead a s).2 ∧ readMemoryByte a s = memRead a s) ∧
    (let l := memRead a s
     let h := memRead (BitVec.ofNat 16 (a.toNat + 1)) l.2
     hostCall (.readMemoryWord a) s = h.2 ∧
       readMemoryWord a s = (BitVec.ofNat 16 (h.1.toNat * 256 + l.1.toNat), h.2))

/-- In every state and with any hooks bound: IMP gives nothing; ACC gives A as the operand byte, IMM the
byte after the opcode, with no further access; ABS has its operand word as effective address and a load
reads the operand once there, while without a load nothing is read. No mode of these costs a cycle. The
operand of IMM is the byte, that of ABS the 16-bit word, read at the PC after the opcode. The modes are
decision D2 (log 16). -/
def Obligations.DirectModes : Prop :=
  (∀ s : State,
    let o := fetchOpcode s
    let z := memRead o.2.pc o.2
    let w := memRead16 o.2.pc o.2
    ((fetch s).1.form.2.mode = .imp → (fetch s).1.form.2 = .imp ∧ (fetch s).2 = o.2) ∧
    ((fetch s).1.form.2.mode = .acc → (fetch s).1.form.2 = .acc ∧ (fetch s).2 = o.2) ∧
    ((fetch s).1.form.2.mode = .imm → (fetch s).1.form.2 = .imm z.1 ∧ (fetch s).2 = z.2) ∧
    ((fetch s).1.form.2.mode = .abs → (fetch s).1.form.2 = .abs w.1 ∧ (fetch s).2 = w.2)) ∧
  ∀ (load : Bool) (v : Byte) (w : Word) (s : State),
    resolve load .imp s = ⟨s, 0#16, 0#8, 0⟩ ∧
    resolve load .acc s = ⟨s, 0#16, s.a, 0⟩ ∧
    resolve load (.imm v) s = ⟨s, 0#16, v, 0⟩ ∧
    resolve true (.abs w) s = ⟨(memRead w s).2, w, (memRead w s).1, 0⟩ ∧
    resolve false (.abs w) s = ⟨s, w, 0#8, 0⟩

/-- For every instruction, all 256 rows: its operation and mode stand in the table of base cycle counts,
each operation in one row and each mode once in it, and the base count of its opcode is the one the table
gives. The counts are decisions D15 and, for the illegal opcodes, D3 (log 3). -/
def Obligations.BaseCycleCounts : Prop :=
  ∀ i : Instr, ∃ row ∈ ([
        ([.adc, .and, .cmp, .eor, .lda, .ora, .sbc], [(.imm, 2), (.zp, 3), (.zpx, 4), (.abs, 4),
          (.abx, 4), (.aby, 4), (.izx, 6), (.izy, 5), (.izp, 5)]),
        ([.sta], [(.zp, 3), (.zpx, 4), (.abs, 4), (.abx, 5), (.aby, 5), (.izx, 6), (.izy, 6), (.izp,
          5)]),
        ([.asl, .lsr, .rol, .ror], [(.acc, 2), (.zp, 5), (.zpx, 6), (.abs, 6), (.abx, 6)]),
        ([.inc, .dec], [(.acc, 2), (.zp, 5), (.zpx, 6), (.abs, 6), (.abx, 7)]),
        ([.bit], [(.imm, 2), (.zp, 3), (.zpx, 4), (.abs, 4), (.abx, 4)]),
        ([.cpx, .cpy], [(.imm, 2), (.zp, 3), (.abs, 4)]),
        ([.ldx], [(.imm, 2), (.zp, 3), (.zpy, 4), (.abs, 4), (.aby, 4)]),
        ([.ldy], [(.imm, 2), (.zp, 3), (.zpx, 4), (.abs, 4), (.abx, 4)]),
        ([.stx], [(.zp, 3), (.zpy, 4), (.abs, 4)]),
        ([.sty], [(.zp, 3), (.zpx, 4), (.abs, 4)]),
        ([.stz], [(.zp, 3), (.zpx, 4), (.abs, 4), (.abx, 5)]),
        ([.trb, .tsb], [(.zp, 5), (.abs, 6)]),
        ([.rmb 0, .rmb 1, .rmb 2, .rmb 3, .rmb 4, .rmb 5, .rmb 6, .rmb 7, .smb 0, .smb 1, .smb 2,
          .smb 3, .smb 4, .smb 5, .smb 6, .smb 7], [(.zp, 5)]),
        ([.bbr 0, .bbr 1, .bbr 2, .bbr 3, .bbr 4, .bbr 5, .bbr 6, .bbr 7, .bbs 0, .bbs 1, .bbs 2,
          .bbs 3, .bbs 4, .bbs 5, .bbs 6, .bbs 7], [(.zpr, 5)]),
        ([.bcc, .bcs, .beq, .bne, .bmi, .bpl, .bvc, .bvs, .bra], [(.rel, 2)]),
        ([.jmp], [(.abs, 3), (.ind, 6), (.iax, 6)]),
        ([.jsr], [(.abs, 6)]),
        ([.rts, .rti], [(.imp, 6)]),
        ([.brk], [(.imp, 7)]),
        ([.pha, .php, .phx, .phy], [(.imp, 3)]),
        ([.pla, .plp, .plx, .ply], [(.imp, 4)]),
        ([.clc, .cld, .cli, .clv, .sec, .sed, .sei, .nop], [(.imp, 2)]),
        ([.tax, .tay, .txa, .tya, .tsx, .txs, .inx, .iny, .dex, .dey], [(.imp, 2)]),
        ([.stp, .wai], [(.imp, 3)]),
        ([.ill], [(.imp, 0)])] : List (List Operation × List (Mode × Nat))),
      i.form.1 ∈ row.1 ∧ (i.form.2.mode, baseCycles i.opcode) ∈ row.2
end

