-- ==== Sys2Proof/Laws/Decode.lean ====
section
/-!
SUPPORT. Facts about the opcode map for all 256 opcode values (30_encoding.md R84, R88), each proved
over its rows and columns once.
-/

namespace Sys2Proof

/-- A property of the sixteen values of a nibble, one after the other. -/
theorem forall_nibble {P : Nat → Prop}
    (h : P 0 ∧ P 1 ∧ P 2 ∧ P 3 ∧ P 4 ∧ P 5 ∧ P 6 ∧ P 7 ∧ P 8 ∧
      P 9 ∧ P 10 ∧ P 11 ∧ P 12 ∧ P 13 ∧ P 14 ∧ P 15) (k : Nat) (hk : k < 16) : P k := by
  obtain ⟨h0, h1, h2, h3, h4, h5, h6, h7, h8, h9, hA, hB, hC, hD, hE, hF⟩ := h
  match k, hk with
  | 0, _ => exact h0
  | 1, _ => exact h1
  | 2, _ => exact h2
  | 3, _ => exact h3
  | 4, _ => exact h4
  | 5, _ => exact h5
  | 6, _ => exact h6
  | 7, _ => exact h7
  | 8, _ => exact h8
  | 9, _ => exact h9
  | 10, _ => exact hA
  | 11, _ => exact hB
  | 12, _ => exact hC
  | 13, _ => exact hD
  | 14, _ => exact hE
  | 15, _ => exact hF
  | n + 16, hn => exact absurd hn (by omega)

/-- A property of every byte, by row and column of the map. -/
theorem forall_byte {P : Byte → Prop} (h : ∀ r, r < 16 → ∀ c, c < 16 → P (BitVec.ofNat 8 (16 * r + c)))
    (b : Byte) : P b := by
  have hb := b.isLt
  have e : 16 * (b.toNat / 16) + b.toNat % 16 = b.toNat := by omega
  have hp := h (b.toNat / 16) (by omega) (b.toNat % 16) (by omega)
  rw [e] at hp
  simpa using hp

/-- The operand of a mode, from the two bytes after the opcode (R81, R86). -/
def Mode.operand (m : Mode) (b1 b2 : Byte) : Operand :=
  match m with
  | .imp => .imp
  | .acc => .acc
  | .imm => .imm b1
  | .zp => .zp b1
  | .zpx => .zpx b1
  | .zpy => .zpy b1
  | .abs => .abs (mkWord b2 b1)
  | .abx => .abx (mkWord b2 b1)
  | .aby => .aby (mkWord b2 b1)
  | .ind => .ind (mkWord b2 b1)
  | .izx => .izx b1
  | .izy => .izy b1
  | .izp => .izp b1
  | .iax => .iax (mkWord b2 b1)
  | .rel => .rel b1
  | .zpr => .zpr b1 b2

/-- The mode of an opcode. -/
def opcodeMode (op : Byte) : Mode := (decodeOpcode op 0 0).form.2.mode

/-- What each entry of the map is: the opcode of the instruction it gives, its operation and its
operand, and the count of operand bytes. -/
theorem decodeOpcode_entry (op : Byte) : ∀ b1 b2 : Byte,
    (decodeOpcode op b1 b2).opcode = op ∧
      (decodeOpcode op b1 b2).form = (opcodeOperation op, (opcodeMode op).operand b1 b2) ∧
      opcodeOperandBytes op = (opcodeMode op).byteCount := by
  revert op
  refine forall_byte (forall_nibble ⟨?_, ?_, ?_, ?_, ?_, ?_, ?_, ?_, ?_, ?_, ?_, ?_, ?_, ?_, ?_, ?_⟩) <;>
    refine forall_nibble ⟨?_, ?_, ?_, ?_, ?_, ?_, ?_, ?_, ?_, ?_, ?_, ?_, ?_, ?_, ?_, ?_⟩ <;>
    exact fun _ _ => ⟨rfl, rfl, rfl⟩

/-- A byte that an opcode's layout does not have is not looked at. -/
theorem decodeOpcode_unused (op : Byte) : ∀ b1 b2 : Byte,
    (opcodeLayout op = .f0 → decodeOpcode op b1 b2 = decodeOpcode op 0#8 0#8) ∧
      (opcodeLayout op = .f1 → decodeOpcode op b1 b2 = decodeOpcode op b1 0#8) := by
  revert op
  refine forall_byte (forall_nibble ⟨?_, ?_, ?_, ?_, ?_, ?_, ?_, ?_, ?_, ?_, ?_, ?_, ?_, ?_, ?_, ?_⟩) <;>
    refine forall_nibble ⟨?_, ?_, ?_, ?_, ?_, ?_, ?_, ?_, ?_, ?_, ?_, ?_, ?_, ?_, ?_, ?_⟩ <;>
    exact fun _ _ => ⟨fun h => by (first | rfl | cases h), fun h => by (first | rfl | cases h)⟩

end Sys2Proof
end

