-- ==== Sys2Proof/Laws/Exec.lean ====
section
/-!
SUPPORT. What `exec` answers, said once by operation and mode (40_engine_and_addressing.md R100): a
proof about one operation in every mode rewrites by `exec_form` and never splits the 256 rows again.
-/

namespace Sys2Proof

/-- The displacement byte of a zero-page bit branch's operand. -/
def Operand.displacement : Operand → Byte
  | .zpr _ d => d
  | _ => 0#8

namespace Machine

/-- Stages 4 to 6 of an operation in a mode. -/
def runForm (op : Operation) (m : Operand) (s : State) : State :=
  match op with
  | .lda => runRead opLda m s
  | .ldx => runRead opLdx m s
  | .ldy => runRead opLdy m s
  | .sta => runStore opSta m s
  | .stx => runStore opStx m s
  | .sty => runStore opSty m s
  | .stz => runStore opStz m s
  | .tax => runRead opTax m s
  | .tay => runRead opTay m s
  | .txa => runRead opTxa m s
  | .tya => runRead opTya m s
  | .tsx => runRead opTsx m s
  | .txs => runRead opTxs m s
  | .adc => runRead opAdc m s
  | .sbc => runRead opSbc m s
  | .cmp => runRead opCmp m s
  | .cpx => runRead opCpx m s
  | .cpy => runRead opCpy m s
  | .inc => runRead opInc m s
  | .dec => runRead opDec m s
  | .inx => runRead opInx m s
  | .iny => runRead opIny m s
  | .dex => runRead opDex m s
  | .dey => runRead opDey m s
  | .and => runRead opAnd m s
  | .ora => runRead opOra m s
  | .eor => runRead opEor m s
  | .bit => runRead (if m.mode = .imm then opBitImm else opBit) m s
  | .asl => runRead opAsl m s
  | .lsr => runRead opLsr m s
  | .rol => runRead opRol m s
  | .ror => runRead opRor m s
  | .trb => runRead opTrb m s
  | .tsb => runRead opTsb m s
  | .rmb n => runRead (opRmb n.val) m s
  | .smb n => runRead (opSmb n.val) m s
  | .bcc => runRead opBcc m s
  | .bcs => runRead opBcs m s
  | .beq => runRead opBeq m s
  | .bne => runRead opBne m s
  | .bmi => runRead opBmi m s
  | .bpl => runRead opBpl m s
  | .bvc => runRead opBvc m s
  | .bvs => runRead opBvs m s
  | .bra => runRead opBra m s
  | .bbr n => runRead (opBbr n.val m.displacement) m s
  | .bbs n => runRead (opBbs n.val m.displacement) m s
  | .jmp => runJump opJmp m s
  | .jsr => runJump opJsr m s
  | .rts => runRead opRts m s
  | .pha => runRead opPha m s
  | .php => runRead opPhp m s
  | .phx => runRead opPhx m s
  | .phy => runRead opPhy m s
  | .pla => runRead opPla m s
  | .plp => runRead opPlp m s
  | .plx => runRead opPlx m s
  | .ply => runRead opPly m s
  | .clc => runRead opClc m s
  | .cld => runRead opCld m s
  | .cli => runRead opCli m s
  | .clv => runRead opClv m s
  | .sec => runRead opSec m s
  | .sed => runRead opSed m s
  | .sei => runRead opSei m s
  | .nop => runRead opNop m s
  | .brk => runRead opBrk m s
  | .rti => runRead opRti m s
  | .ill => s
  | .stp => runRead opStp m s
  | .wai => runRead opWai m s

/-- Under the default length an illegal opcode changes nothing (R238, D3). -/
theorem runIllegal_eq (op : Byte) (s : State) : runIllegal op s = s := by
  cases s
  simp [runIllegal, runStages, resolve, Resolved.advance, illegalOperandBytes, opNop, Operated.done,
    State.setPc, State.addCycles]

/-- Every instruction answers the next state its operation and mode give. -/
theorem exec_eq (i : Instr) (s : State) : exec i s = .next (runForm i.form.1 i.form.2 s) := by
  cases i <;> first | rfl | exact congrArg _ (runIllegal_eq _ _)

theorem exec_form {i : Instr} {op : Operation} {m : Operand} (h : i.form = (op, m)) (s : State) :
    exec i s = .next (runForm op m s) := by
  rw [exec_eq, h]

/-- The mode of every instruction is one its operation lists (the check of WellFormed.lean). -/
theorem form_mode (i : Instr) : i.form.2.mode ∈ i.form.1.modes := by
  have h : i.WellFormed = true := by cases i <;> rfl
  simpa [Instr.WellFormed, formAllowed] using h

/-- What the stages leave but for memory: what the operation leaves, with its extra cycles, and `alu`
in `A` where a write-back has mode ACC (R104). -/
theorem runStages_noMem (load wb : Bool) (count : Nat) (op : Oper) (m : Operand) (s : State) :
    (runStages load wb count op m s).noMem =
      let o := op (resolve load m s).address (resolve load m s).alu ((resolve load m s).advance count)
      if (wb || o.wb) = true ∧ m.mode = .acc then (o.state.noMem.addCycles o.extra).setA o.alu
      else o.state.noMem.addCycles o.extra := by
  unfold runStages
  dsimp only
  split
  · rw [writeBack_noMem]; split <;> simp_all
  · simp_all

/-- The stages change no byte that the operation leaves alone, but the one at the effective address
when there is a write-back. -/
theorem runStages_byteAt (load wb : Bool) (count : Nat) (op : Oper) (m : Operand) (s : State) (b : Word)
    (h : (wb || (op (resolve load m s).address (resolve load m s).alu
      ((resolve load m s).advance count)).wb) = true → b ≠ (resolve load m s).address) :
    (runStages load wb count op m s).byteAt b
      = (op (resolve load m s).address (resolve load m s).alu ((resolve load m s).advance count)).state.byteAt b := by
  unfold runStages
  dsimp only
  split
  · rw [writeBack_byteAt_other _ _ _ (h (by assumption))]; rfl
  · rfl

section
variable (load : Bool) (m : Operand) (s : State)

/-- The state after the addressing stage but for memory. -/
theorem afterMode_noMem :
    (afterMode load m s).noMem
      = (s.noMem.addCycles (resolve load m s).extra).setPc (s.pc + BitVec.ofNat 16 m.mode.byteCount) := by
  simp [afterMode]

@[simp] theorem afterMode_a : (afterMode load m s).a = s.a :=
  (congrArg State.a (afterMode_noMem load m s) :)
@[simp] theorem afterMode_x : (afterMode load m s).x = s.x :=
  (congrArg State.x (afterMode_noMem load m s) :)
@[simp] theorem afterMode_y : (afterMode load m s).y = s.y :=
  (congrArg State.y (afterMode_noMem load m s) :)
@[simp] theorem afterMode_sp : (afterMode load m s).sp = s.sp :=
  (congrArg State.sp (afterMode_noMem load m s) :)
@[simp] theorem afterMode_flags : (afterMode load m s).flags = s.flags :=
  (congrArg State.flags (afterMode_noMem load m s) :)
@[simp] theorem afterMode_pc : (afterMode load m s).pc = s.pc + BitVec.ofNat 16 m.mode.byteCount :=
  (congrArg State.pc (afterMode_noMem load m s) :)
@[simp] theorem afterMode_hookAt (b : Word) : (afterMode load m s).hookAt b = s.hookAt b :=
  (congrArg (State.hookAt · b) (afterMode_noMem load m s) :)

/-- The addressing stage keeps the canonical form of memory. -/
theorem afterMode_wf (h : Memory.wf s.mem = true) : Memory.wf (afterMode load m s).mem = true :=
  resolve_wf load m h

end

end Machine

end Sys2Proof
end

