-- ==== Sys2Proof/Laws/PerInstr.lean ====
section
/-!
SUPPORT. The per-instruction family `OpcodeRow`: the row the decoder's map holds at an instruction's
opcode is the row of that instruction, and the instruction is well formed.
-/

namespace Sys2Proof.Laws

/-- The decoder's entry at `i`'s own opcode, given `i`'s operand bytes, is `i`; its operand byte count
is the number of bytes `i` is encoded with; and `i` is well formed. -/
def OpcodeRow.Statement (i : Instr) : Prop :=
  decodeOpcode i.opcode (i.operandBytes.getD 0 0) (i.operandBytes.getD 1 0) = i
    ∧ opcodeOperandBytes i.opcode = i.operandBytes.length ∧ i.WellFormed = true

/-- The two halves of a word make the word. -/
theorem mkWord_hi_lo (w : Word) : mkWord (hiByte w) (loByte w) = w := by
  unfold mkWord hiByte loByte
  apply BitVec.eq_of_getLsbD_eq
  intro i hi
  simp only [BitVec.getLsbD_append, BitVec.getLsbD_extractLsb']
  by_cases h : i < 8
  · simp [h]
  · have : i - 8 < 8 := by omega
    simp [h, this, show 8 + (i - 8) = i by omega]

theorem OpcodeRow.oraIzx (zadr : Byte) : OpcodeRow.Statement (.oraIzx zadr) :=
  ⟨(rfl : decodeOpcode 0x01#8 zadr 0 = .oraIzx zadr), (rfl : opcodeOperandBytes 0x01#8 = 1), rfl⟩
theorem OpcodeRow.tsbZp (zadr : Byte) : OpcodeRow.Statement (.tsbZp zadr) :=
  ⟨(rfl : decodeOpcode 0x04#8 zadr 0 = .tsbZp zadr), (rfl : opcodeOperandBytes 0x04#8 = 1), rfl⟩
theorem OpcodeRow.oraZp (zadr : Byte) : OpcodeRow.Statement (.oraZp zadr) :=
  ⟨(rfl : decodeOpcode 0x05#8 zadr 0 = .oraZp zadr), (rfl : opcodeOperandBytes 0x05#8 = 1), rfl⟩
theorem OpcodeRow.aslZp (zadr : Byte) : OpcodeRow.Statement (.aslZp zadr) :=
  ⟨(rfl : decodeOpcode 0x06#8 zadr 0 = .aslZp zadr), (rfl : opcodeOperandBytes 0x06#8 = 1), rfl⟩
theorem OpcodeRow.rmb0 (zadr : Byte) : OpcodeRow.Statement (.rmb0 zadr) :=
  ⟨(rfl : decodeOpcode 0x07#8 zadr 0 = .rmb0 zadr), (rfl : opcodeOperandBytes 0x07#8 = 1), rfl⟩
theorem OpcodeRow.oraImm (v : Byte) : OpcodeRow.Statement (.oraImm v) :=
  ⟨(rfl : decodeOpcode 0x09#8 v 0 = .oraImm v), (rfl : opcodeOperandBytes 0x09#8 = 1), rfl⟩
theorem OpcodeRow.tsbAbs (addr : Word) : OpcodeRow.Statement (.tsbAbs addr) :=
  ⟨show decodeOpcode 0x0C#8 (loByte addr) (hiByte addr) = .tsbAbs addr
    from congrArg Instr.tsbAbs (mkWord_hi_lo addr), (rfl : opcodeOperandBytes 0x0C#8 = 2), rfl⟩
theorem OpcodeRow.oraAbs (addr : Word) : OpcodeRow.Statement (.oraAbs addr) :=
  ⟨show decodeOpcode 0x0D#8 (loByte addr) (hiByte addr) = .oraAbs addr
    from congrArg Instr.oraAbs (mkWord_hi_lo addr), (rfl : opcodeOperandBytes 0x0D#8 = 2), rfl⟩
theorem OpcodeRow.aslAbs (addr : Word) : OpcodeRow.Statement (.aslAbs addr) :=
  ⟨show decodeOpcode 0x0E#8 (loByte addr) (hiByte addr) = .aslAbs addr
    from congrArg Instr.aslAbs (mkWord_hi_lo addr), (rfl : opcodeOperandBytes 0x0E#8 = 2), rfl⟩
theorem OpcodeRow.bbr0 (zadr : Byte) (disp : Byte) : OpcodeRow.Statement (.bbr0 zadr disp) :=
  ⟨(rfl : decodeOpcode 0x0F#8 zadr disp = .bbr0 zadr disp), (rfl : opcodeOperandBytes 0x0F#8 = 2), rfl⟩
theorem OpcodeRow.bpl (disp : Byte) : OpcodeRow.Statement (.bpl disp) :=
  ⟨(rfl : decodeOpcode 0x10#8 disp 0 = .bpl disp), (rfl : opcodeOperandBytes 0x10#8 = 1), rfl⟩
theorem OpcodeRow.oraIzy (zadr : Byte) : OpcodeRow.Statement (.oraIzy zadr) :=
  ⟨(rfl : decodeOpcode 0x11#8 zadr 0 = .oraIzy zadr), (rfl : opcodeOperandBytes 0x11#8 = 1), rfl⟩
theorem OpcodeRow.oraIzp (zadr : Byte) : OpcodeRow.Statement (.oraIzp zadr) :=
  ⟨(rfl : decodeOpcode 0x12#8 zadr 0 = .oraIzp zadr), (rfl : opcodeOperandBytes 0x12#8 = 1), rfl⟩
theorem OpcodeRow.trbZp (zadr : Byte) : OpcodeRow.Statement (.trbZp zadr) :=
  ⟨(rfl : decodeOpcode 0x14#8 zadr 0 = .trbZp zadr), (rfl : opcodeOperandBytes 0x14#8 = 1), rfl⟩
theorem OpcodeRow.oraZpx (zadr : Byte) : OpcodeRow.Statement (.oraZpx zadr) :=
  ⟨(rfl : decodeOpcode 0x15#8 zadr 0 = .oraZpx zadr), (rfl : opcodeOperandBytes 0x15#8 = 1), rfl⟩
theorem OpcodeRow.aslZpx (zadr : Byte) : OpcodeRow.Statement (.aslZpx zadr) :=
  ⟨(rfl : decodeOpcode 0x16#8 zadr 0 = .aslZpx zadr), (rfl : opcodeOperandBytes 0x16#8 = 1), rfl⟩
theorem OpcodeRow.rmb1 (zadr : Byte) : OpcodeRow.Statement (.rmb1 zadr) :=
  ⟨(rfl : decodeOpcode 0x17#8 zadr 0 = .rmb1 zadr), (rfl : opcodeOperandBytes 0x17#8 = 1), rfl⟩
theorem OpcodeRow.oraAby (addr : Word) : OpcodeRow.Statement (.oraAby addr) :=
  ⟨show decodeOpcode 0x19#8 (loByte addr) (hiByte addr) = .oraAby addr
    from congrArg Instr.oraAby (mkWord_hi_lo addr), (rfl : opcodeOperandBytes 0x19#8 = 2), rfl⟩
theorem OpcodeRow.trbAbs (addr : Word) : OpcodeRow.Statement (.trbAbs addr) :=
  ⟨show decodeOpcode 0x1C#8 (loByte addr) (hiByte addr) = .trbAbs addr
    from congrArg Instr.trbAbs (mkWord_hi_lo addr), (rfl : opcodeOperandBytes 0x1C#8 = 2), rfl⟩
theorem OpcodeRow.oraAbx (addr : Word) : OpcodeRow.Statement (.oraAbx addr) :=
  ⟨show decodeOpcode 0x1D#8 (loByte addr) (hiByte addr) = .oraAbx addr
    from congrArg Instr.oraAbx (mkWord_hi_lo addr), (rfl : opcodeOperandBytes 0x1D#8 = 2), rfl⟩
theorem OpcodeRow.aslAbx (addr : Word) : OpcodeRow.Statement (.aslAbx addr) :=
  ⟨show decodeOpcode 0x1E#8 (loByte addr) (hiByte addr) = .aslAbx addr
    from congrArg Instr.aslAbx (mkWord_hi_lo addr), (rfl : opcodeOperandBytes 0x1E#8 = 2), rfl⟩
theorem OpcodeRow.bbr1 (zadr : Byte) (disp : Byte) : OpcodeRow.Statement (.bbr1 zadr disp) :=
  ⟨(rfl : decodeOpcode 0x1F#8 zadr disp = .bbr1 zadr disp), (rfl : opcodeOperandBytes 0x1F#8 = 2), rfl⟩
theorem OpcodeRow.jsr (addr : Word) : OpcodeRow.Statement (.jsr addr) :=
  ⟨show decodeOpcode 0x20#8 (loByte addr) (hiByte addr) = .jsr addr
    from congrArg Instr.jsr (mkWord_hi_lo addr), (rfl : opcodeOperandBytes 0x20#8 = 2), rfl⟩
theorem OpcodeRow.andIzx (zadr : Byte) : OpcodeRow.Statement (.andIzx zadr) :=
  ⟨(rfl : decodeOpcode 0x21#8 zadr 0 = .andIzx zadr), (rfl : opcodeOperandBytes 0x21#8 = 1), rfl⟩
theorem OpcodeRow.bitZp (zadr : Byte) : OpcodeRow.Statement (.bitZp zadr) :=
  ⟨(rfl : decodeOpcode 0x24#8 zadr 0 = .bitZp zadr), (rfl : opcodeOperandBytes 0x24#8 = 1), rfl⟩
theorem OpcodeRow.andZp (zadr : Byte) : OpcodeRow.Statement (.andZp zadr) :=
  ⟨(rfl : decodeOpcode 0x25#8 zadr 0 = .andZp zadr), (rfl : opcodeOperandBytes 0x25#8 = 1), rfl⟩
theorem OpcodeRow.rolZp (zadr : Byte) : OpcodeRow.Statement (.rolZp zadr) :=
  ⟨(rfl : decodeOpcode 0x26#8 zadr 0 = .rolZp zadr), (rfl : opcodeOperandBytes 0x26#8 = 1), rfl⟩
theorem OpcodeRow.rmb2 (zadr : Byte) : OpcodeRow.Statement (.rmb2 zadr) :=
  ⟨(rfl : decodeOpcode 0x27#8 zadr 0 = .rmb2 zadr), (rfl : opcodeOperandBytes 0x27#8 = 1), rfl⟩
theorem OpcodeRow.andImm (v : Byte) : OpcodeRow.Statement (.andImm v) :=
  ⟨(rfl : decodeOpcode 0x29#8 v 0 = .andImm v), (rfl : opcodeOperandBytes 0x29#8 = 1), rfl⟩
theorem OpcodeRow.bitAbs (addr : Word) : OpcodeRow.Statement (.bitAbs addr) :=
  ⟨show decodeOpcode 0x2C#8 (loByte addr) (hiByte addr) = .bitAbs addr
    from congrArg Instr.bitAbs (mkWord_hi_lo addr), (rfl : opcodeOperandBytes 0x2C#8 = 2), rfl⟩
theorem OpcodeRow.andAbs (addr : Word) : OpcodeRow.Statement (.andAbs addr) :=
  ⟨show decodeOpcode 0x2D#8 (loByte addr) (hiByte addr) = .andAbs addr
    from congrArg Instr.andAbs (mkWord_hi_lo addr), (rfl : opcodeOperandBytes 0x2D#8 = 2), rfl⟩
theorem OpcodeRow.rolAbs (addr : Word) : OpcodeRow.Statement (.rolAbs addr) :=
  ⟨show decodeOpcode 0x2E#8 (loByte addr) (hiByte addr) = .rolAbs addr
    from congrArg Instr.rolAbs (mkWord_hi_lo addr), (rfl : opcodeOperandBytes 0x2E#8 = 2), rfl⟩
theorem OpcodeRow.bbr2 (zadr : Byte) (disp : Byte) : OpcodeRow.Statement (.bbr2 zadr disp) :=
  ⟨(rfl : decodeOpcode 0x2F#8 zadr disp = .bbr2 zadr disp), (rfl : opcodeOperandBytes 0x2F#8 = 2), rfl⟩
theorem OpcodeRow.bmi (disp : Byte) : OpcodeRow.Statement (.bmi disp) :=
  ⟨(rfl : decodeOpcode 0x30#8 disp 0 = .bmi disp), (rfl : opcodeOperandBytes 0x30#8 = 1), rfl⟩
theorem OpcodeRow.andIzy (zadr : Byte) : OpcodeRow.Statement (.andIzy zadr) :=
  ⟨(rfl : decodeOpcode 0x31#8 zadr 0 = .andIzy zadr), (rfl : opcodeOperandBytes 0x31#8 = 1), rfl⟩
theorem OpcodeRow.andIzp (zadr : Byte) : OpcodeRow.Statement (.andIzp zadr) :=
  ⟨(rfl : decodeOpcode 0x32#8 zadr 0 = .andIzp zadr), (rfl : opcodeOperandBytes 0x32#8 = 1), rfl⟩
theorem OpcodeRow.bitZpx (zadr : Byte) : OpcodeRow.Statement (.bitZpx zadr) :=
  ⟨(rfl : decodeOpcode 0x34#8 zadr 0 = .bitZpx zadr), (rfl : opcodeOperandBytes 0x34#8 = 1), rfl⟩
theorem OpcodeRow.andZpx (zadr : Byte) : OpcodeRow.Statement (.andZpx zadr) :=
  ⟨(rfl : decodeOpcode 0x35#8 zadr 0 = .andZpx zadr), (rfl : opcodeOperandBytes 0x35#8 = 1), rfl⟩
theorem OpcodeRow.rolZpx (zadr : Byte) : OpcodeRow.Statement (.rolZpx zadr) :=
  ⟨(rfl : decodeOpcode 0x36#8 zadr 0 = .rolZpx zadr), (rfl : opcodeOperandBytes 0x36#8 = 1), rfl⟩
theorem OpcodeRow.rmb3 (zadr : Byte) : OpcodeRow.Statement (.rmb3 zadr) :=
  ⟨(rfl : decodeOpcode 0x37#8 zadr 0 = .rmb3 zadr), (rfl : opcodeOperandBytes 0x37#8 = 1), rfl⟩
theorem OpcodeRow.andAby (addr : Word) : OpcodeRow.Statement (.andAby addr) :=
  ⟨show decodeOpcode 0x39#8 (loByte addr) (hiByte addr) = .andAby addr
    from congrArg Instr.andAby (mkWord_hi_lo addr), (rfl : opcodeOperandBytes 0x39#8 = 2), rfl⟩
theorem OpcodeRow.bitAbx (addr : Word) : OpcodeRow.Statement (.bitAbx addr) :=
  ⟨show decodeOpcode 0x3C#8 (loByte addr) (hiByte addr) = .bitAbx addr
    from congrArg Instr.bitAbx (mkWord_hi_lo addr), (rfl : opcodeOperandBytes 0x3C#8 = 2), rfl⟩
theorem OpcodeRow.andAbx (addr : Word) : OpcodeRow.Statement (.andAbx addr) :=
  ⟨show decodeOpcode 0x3D#8 (loByte addr) (hiByte addr) = .andAbx addr
    from congrArg Instr.andAbx (mkWord_hi_lo addr), (rfl : opcodeOperandBytes 0x3D#8 = 2), rfl⟩
theorem OpcodeRow.rolAbx (addr : Word) : OpcodeRow.Statement (.rolAbx addr) :=
  ⟨show decodeOpcode 0x3E#8 (loByte addr) (hiByte addr) = .rolAbx addr
    from congrArg Instr.rolAbx (mkWord_hi_lo addr), (rfl : opcodeOperandBytes 0x3E#8 = 2), rfl⟩
theorem OpcodeRow.bbr3 (zadr : Byte) (disp : Byte) : OpcodeRow.Statement (.bbr3 zadr disp) :=
  ⟨(rfl : decodeOpcode 0x3F#8 zadr disp = .bbr3 zadr disp), (rfl : opcodeOperandBytes 0x3F#8 = 2), rfl⟩
theorem OpcodeRow.eorIzx (zadr : Byte) : OpcodeRow.Statement (.eorIzx zadr) :=
  ⟨(rfl : decodeOpcode 0x41#8 zadr 0 = .eorIzx zadr), (rfl : opcodeOperandBytes 0x41#8 = 1), rfl⟩
theorem OpcodeRow.eorZp (zadr : Byte) : OpcodeRow.Statement (.eorZp zadr) :=
  ⟨(rfl : decodeOpcode 0x45#8 zadr 0 = .eorZp zadr), (rfl : opcodeOperandBytes 0x45#8 = 1), rfl⟩
theorem OpcodeRow.lsrZp (zadr : Byte) : OpcodeRow.Statement (.lsrZp zadr) :=
  ⟨(rfl : decodeOpcode 0x46#8 zadr 0 = .lsrZp zadr), (rfl : opcodeOperandBytes 0x46#8 = 1), rfl⟩
theorem OpcodeRow.rmb4 (zadr : Byte) : OpcodeRow.Statement (.rmb4 zadr) :=
  ⟨(rfl : decodeOpcode 0x47#8 zadr 0 = .rmb4 zadr), (rfl : opcodeOperandBytes 0x47#8 = 1), rfl⟩
theorem OpcodeRow.eorImm (v : Byte) : OpcodeRow.Statement (.eorImm v) :=
  ⟨(rfl : decodeOpcode 0x49#8 v 0 = .eorImm v), (rfl : opcodeOperandBytes 0x49#8 = 1), rfl⟩
theorem OpcodeRow.jmpAbs (addr : Word) : OpcodeRow.Statement (.jmpAbs addr) :=
  ⟨show decodeOpcode 0x4C#8 (loByte addr) (hiByte addr) = .jmpAbs addr
    from congrArg Instr.jmpAbs (mkWord_hi_lo addr), (rfl : opcodeOperandBytes 0x4C#8 = 2), rfl⟩
theorem OpcodeRow.eorAbs (addr : Word) : OpcodeRow.Statement (.eorAbs addr) :=
  ⟨show decodeOpcode 0x4D#8 (loByte addr) (hiByte addr) = .eorAbs addr
    from congrArg Instr.eorAbs (mkWord_hi_lo addr), (rfl : opcodeOperandBytes 0x4D#8 = 2), rfl⟩
theorem OpcodeRow.lsrAbs (addr : Word) : OpcodeRow.Statement (.lsrAbs addr) :=
  ⟨show decodeOpcode 0x4E#8 (loByte addr) (hiByte addr) = .lsrAbs addr
    from congrArg Instr.lsrAbs (mkWord_hi_lo addr), (rfl : opcodeOperandBytes 0x4E#8 = 2), rfl⟩
theorem OpcodeRow.bbr4 (zadr : Byte) (disp : Byte) : OpcodeRow.Statement (.bbr4 zadr disp) :=
  ⟨(rfl : decodeOpcode 0x4F#8 zadr disp = .bbr4 zadr disp), (rfl : opcodeOperandBytes 0x4F#8 = 2), rfl⟩
theorem OpcodeRow.bvc (disp : Byte) : OpcodeRow.Statement (.bvc disp) :=
  ⟨(rfl : decodeOpcode 0x50#8 disp 0 = .bvc disp), (rfl : opcodeOperandBytes 0x50#8 = 1), rfl⟩
theorem OpcodeRow.eorIzy (zadr : Byte) : OpcodeRow.Statement (.eorIzy zadr) :=
  ⟨(rfl : decodeOpcode 0x51#8 zadr 0 = .eorIzy zadr), (rfl : opcodeOperandBytes 0x51#8 = 1), rfl⟩
theorem OpcodeRow.eorIzp (zadr : Byte) : OpcodeRow.Statement (.eorIzp zadr) :=
  ⟨(rfl : decodeOpcode 0x52#8 zadr 0 = .eorIzp zadr), (rfl : opcodeOperandBytes 0x52#8 = 1), rfl⟩
theorem OpcodeRow.eorZpx (zadr : Byte) : OpcodeRow.Statement (.eorZpx zadr) :=
  ⟨(rfl : decodeOpcode 0x55#8 zadr 0 = .eorZpx zadr), (rfl : opcodeOperandBytes 0x55#8 = 1), rfl⟩
theorem OpcodeRow.lsrZpx (zadr : Byte) : OpcodeRow.Statement (.lsrZpx zadr) :=
  ⟨(rfl : decodeOpcode 0x56#8 zadr 0 = .lsrZpx zadr), (rfl : opcodeOperandBytes 0x56#8 = 1), rfl⟩
theorem OpcodeRow.rmb5 (zadr : Byte) : OpcodeRow.Statement (.rmb5 zadr) :=
  ⟨(rfl : decodeOpcode 0x57#8 zadr 0 = .rmb5 zadr), (rfl : opcodeOperandBytes 0x57#8 = 1), rfl⟩
theorem OpcodeRow.eorAby (addr : Word) : OpcodeRow.Statement (.eorAby addr) :=
  ⟨show decodeOpcode 0x59#8 (loByte addr) (hiByte addr) = .eorAby addr
    from congrArg Instr.eorAby (mkWord_hi_lo addr), (rfl : opcodeOperandBytes 0x59#8 = 2), rfl⟩
theorem OpcodeRow.eorAbx (addr : Word) : OpcodeRow.Statement (.eorAbx addr) :=
  ⟨show decodeOpcode 0x5D#8 (loByte addr) (hiByte addr) = .eorAbx addr
    from congrArg Instr.eorAbx (mkWord_hi_lo addr), (rfl : opcodeOperandBytes 0x5D#8 = 2), rfl⟩
theorem OpcodeRow.lsrAbx (addr : Word) : OpcodeRow.Statement (.lsrAbx addr) :=
  ⟨show decodeOpcode 0x5E#8 (loByte addr) (hiByte addr) = .lsrAbx addr
    from congrArg Instr.lsrAbx (mkWord_hi_lo addr), (rfl : opcodeOperandBytes 0x5E#8 = 2), rfl⟩
theorem OpcodeRow.bbr5 (zadr : Byte) (disp : Byte) : OpcodeRow.Statement (.bbr5 zadr disp) :=
  ⟨(rfl : decodeOpcode 0x5F#8 zadr disp = .bbr5 zadr disp), (rfl : opcodeOperandBytes 0x5F#8 = 2), rfl⟩
theorem OpcodeRow.adcIzx (zadr : Byte) : OpcodeRow.Statement (.adcIzx zadr) :=
  ⟨(rfl : decodeOpcode 0x61#8 zadr 0 = .adcIzx zadr), (rfl : opcodeOperandBytes 0x61#8 = 1), rfl⟩
theorem OpcodeRow.stzZp (zadr : Byte) : OpcodeRow.Statement (.stzZp zadr) :=
  ⟨(rfl : decodeOpcode 0x64#8 zadr 0 = .stzZp zadr), (rfl : opcodeOperandBytes 0x64#8 = 1), rfl⟩
theorem OpcodeRow.adcZp (zadr : Byte) : OpcodeRow.Statement (.adcZp zadr) :=
  ⟨(rfl : decodeOpcode 0x65#8 zadr 0 = .adcZp zadr), (rfl : opcodeOperandBytes 0x65#8 = 1), rfl⟩
theorem OpcodeRow.rorZp (zadr : Byte) : OpcodeRow.Statement (.rorZp zadr) :=
  ⟨(rfl : decodeOpcode 0x66#8 zadr 0 = .rorZp zadr), (rfl : opcodeOperandBytes 0x66#8 = 1), rfl⟩
theorem OpcodeRow.rmb6 (zadr : Byte) : OpcodeRow.Statement (.rmb6 zadr) :=
  ⟨(rfl : decodeOpcode 0x67#8 zadr 0 = .rmb6 zadr), (rfl : opcodeOperandBytes 0x67#8 = 1), rfl⟩
theorem OpcodeRow.adcImm (v : Byte) : OpcodeRow.Statement (.adcImm v) :=
  ⟨(rfl : decodeOpcode 0x69#8 v 0 = .adcImm v), (rfl : opcodeOperandBytes 0x69#8 = 1), rfl⟩
theorem OpcodeRow.jmpInd (ptr : Word) : OpcodeRow.Statement (.jmpInd ptr) :=
  ⟨show decodeOpcode 0x6C#8 (loByte ptr) (hiByte ptr) = .jmpInd ptr
    from congrArg Instr.jmpInd (mkWord_hi_lo ptr), (rfl : opcodeOperandBytes 0x6C#8 = 2), rfl⟩
theorem OpcodeRow.adcAbs (addr : Word) : OpcodeRow.Statement (.adcAbs addr) :=
  ⟨show decodeOpcode 0x6D#8 (loByte addr) (hiByte addr) = .adcAbs addr
    from congrArg Instr.adcAbs (mkWord_hi_lo addr), (rfl : opcodeOperandBytes 0x6D#8 = 2), rfl⟩
theorem OpcodeRow.rorAbs (addr : Word) : OpcodeRow.Statement (.rorAbs addr) :=
  ⟨show decodeOpcode 0x6E#8 (loByte addr) (hiByte addr) = .rorAbs addr
    from congrArg Instr.rorAbs (mkWord_hi_lo addr), (rfl : opcodeOperandBytes 0x6E#8 = 2), rfl⟩
theorem OpcodeRow.bbr6 (zadr : Byte) (disp : Byte) : OpcodeRow.Statement (.bbr6 zadr disp) :=
  ⟨(rfl : decodeOpcode 0x6F#8 zadr disp = .bbr6 zadr disp), (rfl : opcodeOperandBytes 0x6F#8 = 2), rfl⟩
theorem OpcodeRow.bvs (disp : Byte) : OpcodeRow.Statement (.bvs disp) :=
  ⟨(rfl : decodeOpcode 0x70#8 disp 0 = .bvs disp), (rfl : opcodeOperandBytes 0x70#8 = 1), rfl⟩
theorem OpcodeRow.adcIzy (zadr : Byte) : OpcodeRow.Statement (.adcIzy zadr) :=
  ⟨(rfl : decodeOpcode 0x71#8 zadr 0 = .adcIzy zadr), (rfl : opcodeOperandBytes 0x71#8 = 1), rfl⟩
theorem OpcodeRow.adcIzp (zadr : Byte) : OpcodeRow.Statement (.adcIzp zadr) :=
  ⟨(rfl : decodeOpcode 0x72#8 zadr 0 = .adcIzp zadr), (rfl : opcodeOperandBytes 0x72#8 = 1), rfl⟩
theorem OpcodeRow.stzZpx (zadr : Byte) : OpcodeRow.Statement (.stzZpx zadr) :=
  ⟨(rfl : decodeOpcode 0x74#8 zadr 0 = .stzZpx zadr), (rfl : opcodeOperandBytes 0x74#8 = 1), rfl⟩
theorem OpcodeRow.adcZpx (zadr : Byte) : OpcodeRow.Statement (.adcZpx zadr) :=
  ⟨(rfl : decodeOpcode 0x75#8 zadr 0 = .adcZpx zadr), (rfl : opcodeOperandBytes 0x75#8 = 1), rfl⟩
theorem OpcodeRow.rorZpx (zadr : Byte) : OpcodeRow.Statement (.rorZpx zadr) :=
  ⟨(rfl : decodeOpcode 0x76#8 zadr 0 = .rorZpx zadr), (rfl : opcodeOperandBytes 0x76#8 = 1), rfl⟩
theorem OpcodeRow.rmb7 (zadr : Byte) : OpcodeRow.Statement (.rmb7 zadr) :=
  ⟨(rfl : decodeOpcode 0x77#8 zadr 0 = .rmb7 zadr), (rfl : opcodeOperandBytes 0x77#8 = 1), rfl⟩
theorem OpcodeRow.adcAby (addr : Word) : OpcodeRow.Statement (.adcAby addr) :=
  ⟨show decodeOpcode 0x79#8 (loByte addr) (hiByte addr) = .adcAby addr
    from congrArg Instr.adcAby (mkWord_hi_lo addr), (rfl : opcodeOperandBytes 0x79#8 = 2), rfl⟩
theorem OpcodeRow.jmpIax (ptr : Word) : OpcodeRow.Statement (.jmpIax ptr) :=
  ⟨show decodeOpcode 0x7C#8 (loByte ptr) (hiByte ptr) = .jmpIax ptr
    from congrArg Instr.jmpIax (mkWord_hi_lo ptr), (rfl : opcodeOperandBytes 0x7C#8 = 2), rfl⟩
theorem OpcodeRow.adcAbx (addr : Word) : OpcodeRow.Statement (.adcAbx addr) :=
  ⟨show decodeOpcode 0x7D#8 (loByte addr) (hiByte addr) = .adcAbx addr
    from congrArg Instr.adcAbx (mkWord_hi_lo addr), (rfl : opcodeOperandBytes 0x7D#8 = 2), rfl⟩
theorem OpcodeRow.rorAbx (addr : Word) : OpcodeRow.Statement (.rorAbx addr) :=
  ⟨show decodeOpcode 0x7E#8 (loByte addr) (hiByte addr) = .rorAbx addr
    from congrArg Instr.rorAbx (mkWord_hi_lo addr), (rfl : opcodeOperandBytes 0x7E#8 = 2), rfl⟩
theorem OpcodeRow.bbr7 (zadr : Byte) (disp : Byte) : OpcodeRow.Statement (.bbr7 zadr disp) :=
  ⟨(rfl : decodeOpcode 0x7F#8 zadr disp = .bbr7 zadr disp), (rfl : opcodeOperandBytes 0x7F#8 = 2), rfl⟩
theorem OpcodeRow.bra (disp : Byte) : OpcodeRow.Statement (.bra disp) :=
  ⟨(rfl : decodeOpcode 0x80#8 disp 0 = .bra disp), (rfl : opcodeOperandBytes 0x80#8 = 1), rfl⟩
theorem OpcodeRow.staIzx (zadr : Byte) : OpcodeRow.Statement (.staIzx zadr) :=
  ⟨(rfl : decodeOpcode 0x81#8 zadr 0 = .staIzx zadr), (rfl : opcodeOperandBytes 0x81#8 = 1), rfl⟩
theorem OpcodeRow.styZp (zadr : Byte) : OpcodeRow.Statement (.styZp zadr) :=
  ⟨(rfl : decodeOpcode 0x84#8 zadr 0 = .styZp zadr), (rfl : opcodeOperandBytes 0x84#8 = 1), rfl⟩
theorem OpcodeRow.staZp (zadr : Byte) : OpcodeRow.Statement (.staZp zadr) :=
  ⟨(rfl : decodeOpcode 0x85#8 zadr 0 = .staZp zadr), (rfl : opcodeOperandBytes 0x85#8 = 1), rfl⟩
theorem OpcodeRow.stxZp (zadr : Byte) : OpcodeRow.Statement (.stxZp zadr) :=
  ⟨(rfl : decodeOpcode 0x86#8 zadr 0 = .stxZp zadr), (rfl : opcodeOperandBytes 0x86#8 = 1), rfl⟩
theorem OpcodeRow.smb0 (zadr : Byte) : OpcodeRow.Statement (.smb0 zadr) :=
  ⟨(rfl : decodeOpcode 0x87#8 zadr 0 = .smb0 zadr), (rfl : opcodeOperandBytes 0x87#8 = 1), rfl⟩
theorem OpcodeRow.bitImm (v : Byte) : OpcodeRow.Statement (.bitImm v) :=
  ⟨(rfl : decodeOpcode 0x89#8 v 0 = .bitImm v), (rfl : opcodeOperandBytes 0x89#8 = 1), rfl⟩
theorem OpcodeRow.styAbs (addr : Word) : OpcodeRow.Statement (.styAbs addr) :=
  ⟨show decodeOpcode 0x8C#8 (loByte addr) (hiByte addr) = .styAbs addr
    from congrArg Instr.styAbs (mkWord_hi_lo addr), (rfl : opcodeOperandBytes 0x8C#8 = 2), rfl⟩
theorem OpcodeRow.staAbs (addr : Word) : OpcodeRow.Statement (.staAbs addr) :=
  ⟨show decodeOpcode 0x8D#8 (loByte addr) (hiByte addr) = .staAbs addr
    from congrArg Instr.staAbs (mkWord_hi_lo addr), (rfl : opcodeOperandBytes 0x8D#8 = 2), rfl⟩
theorem OpcodeRow.stxAbs (addr : Word) : OpcodeRow.Statement (.stxAbs addr) :=
  ⟨show decodeOpcode 0x8E#8 (loByte addr) (hiByte addr) = .stxAbs addr
    from congrArg Instr.stxAbs (mkWord_hi_lo addr), (rfl : opcodeOperandBytes 0x8E#8 = 2), rfl⟩
theorem OpcodeRow.bbs0 (zadr : Byte) (disp : Byte) : OpcodeRow.Statement (.bbs0 zadr disp) :=
  ⟨(rfl : decodeOpcode 0x8F#8 zadr disp = .bbs0 zadr disp), (rfl : opcodeOperandBytes 0x8F#8 = 2), rfl⟩
theorem OpcodeRow.bcc (disp : Byte) : OpcodeRow.Statement (.bcc disp) :=
  ⟨(rfl : decodeOpcode 0x90#8 disp 0 = .bcc disp), (rfl : opcodeOperandBytes 0x90#8 = 1), rfl⟩
theorem OpcodeRow.staIzy (zadr : Byte) : OpcodeRow.Statement (.staIzy zadr) :=
  ⟨(rfl : decodeOpcode 0x91#8 zadr 0 = .staIzy zadr), (rfl : opcodeOperandBytes 0x91#8 = 1), rfl⟩
theorem OpcodeRow.staIzp (zadr : Byte) : OpcodeRow.Statement (.staIzp zadr) :=
  ⟨(rfl : decodeOpcode 0x92#8 zadr 0 = .staIzp zadr), (rfl : opcodeOperandBytes 0x92#8 = 1), rfl⟩
theorem OpcodeRow.styZpx (zadr : Byte) : OpcodeRow.Statement (.styZpx zadr) :=
  ⟨(rfl : decodeOpcode 0x94#8 zadr 0 = .styZpx zadr), (rfl : opcodeOperandBytes 0x94#8 = 1), rfl⟩
theorem OpcodeRow.staZpx (zadr : Byte) : OpcodeRow.Statement (.staZpx zadr) :=
  ⟨(rfl : decodeOpcode 0x95#8 zadr 0 = .staZpx zadr), (rfl : opcodeOperandBytes 0x95#8 = 1), rfl⟩
theorem OpcodeRow.stxZpy (zadr : Byte) : OpcodeRow.Statement (.stxZpy zadr) :=
  ⟨(rfl : decodeOpcode 0x96#8 zadr 0 = .stxZpy zadr), (rfl : opcodeOperandBytes 0x96#8 = 1), rfl⟩
theorem OpcodeRow.smb1 (zadr : Byte) : OpcodeRow.Statement (.smb1 zadr) :=
  ⟨(rfl : decodeOpcode 0x97#8 zadr 0 = .smb1 zadr), (rfl : opcodeOperandBytes 0x97#8 = 1), rfl⟩
theorem OpcodeRow.staAby (addr : Word) : OpcodeRow.Statement (.staAby addr) :=
  ⟨show decodeOpcode 0x99#8 (loByte addr) (hiByte addr) = .staAby addr
    from congrArg Instr.staAby (mkWord_hi_lo addr), (rfl : opcodeOperandBytes 0x99#8 = 2), rfl⟩
theorem OpcodeRow.stzAbs (addr : Word) : OpcodeRow.Statement (.stzAbs addr) :=
  ⟨show decodeOpcode 0x9C#8 (loByte addr) (hiByte addr) = .stzAbs addr
    from congrArg Instr.stzAbs (mkWord_hi_lo addr), (rfl : opcodeOperandBytes 0x9C#8 = 2), rfl⟩
theorem OpcodeRow.staAbx (addr : Word) : OpcodeRow.Statement (.staAbx addr) :=
  ⟨show decodeOpcode 0x9D#8 (loByte addr) (hiByte addr) = .staAbx addr
    from congrArg Instr.staAbx (mkWord_hi_lo addr), (rfl : opcodeOperandBytes 0x9D#8 = 2), rfl⟩
theorem OpcodeRow.stzAbx (addr : Word) : OpcodeRow.Statement (.stzAbx addr) :=
  ⟨show decodeOpcode 0x9E#8 (loByte addr) (hiByte addr) = .stzAbx addr
    from congrArg Instr.stzAbx (mkWord_hi_lo addr), (rfl : opcodeOperandBytes 0x9E#8 = 2), rfl⟩
theorem OpcodeRow.bbs1 (zadr : Byte) (disp : Byte) : OpcodeRow.Statement (.bbs1 zadr disp) :=
  ⟨(rfl : decodeOpcode 0x9F#8 zadr disp = .bbs1 zadr disp), (rfl : opcodeOperandBytes 0x9F#8 = 2), rfl⟩
theorem OpcodeRow.ldyImm (v : Byte) : OpcodeRow.Statement (.ldyImm v) :=
  ⟨(rfl : decodeOpcode 0xA0#8 v 0 = .ldyImm v), (rfl : opcodeOperandBytes 0xA0#8 = 1), rfl⟩
theorem OpcodeRow.ldaIzx (zadr : Byte) : OpcodeRow.Statement (.ldaIzx zadr) :=
  ⟨(rfl : decodeOpcode 0xA1#8 zadr 0 = .ldaIzx zadr), (rfl : opcodeOperandBytes 0xA1#8 = 1), rfl⟩
theorem OpcodeRow.ldxImm (v : Byte) : OpcodeRow.Statement (.ldxImm v) :=
  ⟨(rfl : decodeOpcode 0xA2#8 v 0 = .ldxImm v), (rfl : opcodeOperandBytes 0xA2#8 = 1), rfl⟩
theorem OpcodeRow.ldyZp (zadr : Byte) : OpcodeRow.Statement (.ldyZp zadr) :=
  ⟨(rfl : decodeOpcode 0xA4#8 zadr 0 = .ldyZp zadr), (rfl : opcodeOperandBytes 0xA4#8 = 1), rfl⟩
theorem OpcodeRow.ldaZp (zadr : Byte) : OpcodeRow.Statement (.ldaZp zadr) :=
  ⟨(rfl : decodeOpcode 0xA5#8 zadr 0 = .ldaZp zadr), (rfl : opcodeOperandBytes 0xA5#8 = 1), rfl⟩
theorem OpcodeRow.ldxZp (zadr : Byte) : OpcodeRow.Statement (.ldxZp zadr) :=
  ⟨(rfl : decodeOpcode 0xA6#8 zadr 0 = .ldxZp zadr), (rfl : opcodeOperandBytes 0xA6#8 = 1), rfl⟩
theorem OpcodeRow.smb2 (zadr : Byte) : OpcodeRow.Statement (.smb2 zadr) :=
  ⟨(rfl : decodeOpcode 0xA7#8 zadr 0 = .smb2 zadr), (rfl : opcodeOperandBytes 0xA7#8 = 1), rfl⟩
theorem OpcodeRow.ldaImm (v : Byte) : OpcodeRow.Statement (.ldaImm v) :=
  ⟨(rfl : decodeOpcode 0xA9#8 v 0 = .ldaImm v), (rfl : opcodeOperandBytes 0xA9#8 = 1), rfl⟩
theorem OpcodeRow.ldyAbs (addr : Word) : OpcodeRow.Statement (.ldyAbs addr) :=
  ⟨show decodeOpcode 0xAC#8 (loByte addr) (hiByte addr) = .ldyAbs addr
    from congrArg Instr.ldyAbs (mkWord_hi_lo addr), (rfl : opcodeOperandBytes 0xAC#8 = 2), rfl⟩
theorem OpcodeRow.ldaAbs (addr : Word) : OpcodeRow.Statement (.ldaAbs addr) :=
  ⟨show decodeOpcode 0xAD#8 (loByte addr) (hiByte addr) = .ldaAbs addr
    from congrArg Instr.ldaAbs (mkWord_hi_lo addr), (rfl : opcodeOperandBytes 0xAD#8 = 2), rfl⟩
theorem OpcodeRow.ldxAbs (addr : Word) : OpcodeRow.Statement (.ldxAbs addr) :=
  ⟨show decodeOpcode 0xAE#8 (loByte addr) (hiByte addr) = .ldxAbs addr
    from congrArg Instr.ldxAbs (mkWord_hi_lo addr), (rfl : opcodeOperandBytes 0xAE#8 = 2), rfl⟩
theorem OpcodeRow.bbs2 (zadr : Byte) (disp : Byte) : OpcodeRow.Statement (.bbs2 zadr disp) :=
  ⟨(rfl : decodeOpcode 0xAF#8 zadr disp = .bbs2 zadr disp), (rfl : opcodeOperandBytes 0xAF#8 = 2), rfl⟩
theorem OpcodeRow.bcs (disp : Byte) : OpcodeRow.Statement (.bcs disp) :=
  ⟨(rfl : decodeOpcode 0xB0#8 disp 0 = .bcs disp), (rfl : opcodeOperandBytes 0xB0#8 = 1), rfl⟩
theorem OpcodeRow.ldaIzy (zadr : Byte) : OpcodeRow.Statement (.ldaIzy zadr) :=
  ⟨(rfl : decodeOpcode 0xB1#8 zadr 0 = .ldaIzy zadr), (rfl : opcodeOperandBytes 0xB1#8 = 1), rfl⟩
theorem OpcodeRow.ldaIzp (zadr : Byte) : OpcodeRow.Statement (.ldaIzp zadr) :=
  ⟨(rfl : decodeOpcode 0xB2#8 zadr 0 = .ldaIzp zadr), (rfl : opcodeOperandBytes 0xB2#8 = 1), rfl⟩
theorem OpcodeRow.ldyZpx (zadr : Byte) : OpcodeRow.Statement (.ldyZpx zadr) :=
  ⟨(rfl : decodeOpcode 0xB4#8 zadr 0 = .ldyZpx zadr), (rfl : opcodeOperandBytes 0xB4#8 = 1), rfl⟩
theorem OpcodeRow.ldaZpx (zadr : Byte) : OpcodeRow.Statement (.ldaZpx zadr) :=
  ⟨(rfl : decodeOpcode 0xB5#8 zadr 0 = .ldaZpx zadr), (rfl : opcodeOperandBytes 0xB5#8 = 1), rfl⟩
theorem OpcodeRow.ldxZpy (zadr : Byte) : OpcodeRow.Statement (.ldxZpy zadr) :=
  ⟨(rfl : decodeOpcode 0xB6#8 zadr 0 = .ldxZpy zadr), (rfl : opcodeOperandBytes 0xB6#8 = 1), rfl⟩
theorem OpcodeRow.smb3 (zadr : Byte) : OpcodeRow.Statement (.smb3 zadr) :=
  ⟨(rfl : decodeOpcode 0xB7#8 zadr 0 = .smb3 zadr), (rfl : opcodeOperandBytes 0xB7#8 = 1), rfl⟩
theorem OpcodeRow.ldaAby (addr : Word) : OpcodeRow.Statement (.ldaAby addr) :=
  ⟨show decodeOpcode 0xB9#8 (loByte addr) (hiByte addr) = .ldaAby addr
    from congrArg Instr.ldaAby (mkWord_hi_lo addr), (rfl : opcodeOperandBytes 0xB9#8 = 2), rfl⟩
theorem OpcodeRow.ldyAbx (addr : Word) : OpcodeRow.Statement (.ldyAbx addr) :=
  ⟨show decodeOpcode 0xBC#8 (loByte addr) (hiByte addr) = .ldyAbx addr
    from congrArg Instr.ldyAbx (mkWord_hi_lo addr), (rfl : opcodeOperandBytes 0xBC#8 = 2), rfl⟩
theorem OpcodeRow.ldaAbx (addr : Word) : OpcodeRow.Statement (.ldaAbx addr) :=
  ⟨show decodeOpcode 0xBD#8 (loByte addr) (hiByte addr) = .ldaAbx addr
    from congrArg Instr.ldaAbx (mkWord_hi_lo addr), (rfl : opcodeOperandBytes 0xBD#8 = 2), rfl⟩
theorem OpcodeRow.ldxAby (addr : Word) : OpcodeRow.Statement (.ldxAby addr) :=
  ⟨show decodeOpcode 0xBE#8 (loByte addr) (hiByte addr) = .ldxAby addr
    from congrArg Instr.ldxAby (mkWord_hi_lo addr), (rfl : opcodeOperandBytes 0xBE#8 = 2), rfl⟩
theorem OpcodeRow.bbs3 (zadr : Byte) (disp : Byte) : OpcodeRow.Statement (.bbs3 zadr disp) :=
  ⟨(rfl : decodeOpcode 0xBF#8 zadr disp = .bbs3 zadr disp), (rfl : opcodeOperandBytes 0xBF#8 = 2), rfl⟩
theorem OpcodeRow.cpyImm (v : Byte) : OpcodeRow.Statement (.cpyImm v) :=
  ⟨(rfl : decodeOpcode 0xC0#8 v 0 = .cpyImm v), (rfl : opcodeOperandBytes 0xC0#8 = 1), rfl⟩
theorem OpcodeRow.cmpIzx (zadr : Byte) : OpcodeRow.Statement (.cmpIzx zadr) :=
  ⟨(rfl : decodeOpcode 0xC1#8 zadr 0 = .cmpIzx zadr), (rfl : opcodeOperandBytes 0xC1#8 = 1), rfl⟩
theorem OpcodeRow.cpyZp (zadr : Byte) : OpcodeRow.Statement (.cpyZp zadr) :=
  ⟨(rfl : decodeOpcode 0xC4#8 zadr 0 = .cpyZp zadr), (rfl : opcodeOperandBytes 0xC4#8 = 1), rfl⟩
theorem OpcodeRow.cmpZp (zadr : Byte) : OpcodeRow.Statement (.cmpZp zadr) :=
  ⟨(rfl : decodeOpcode 0xC5#8 zadr 0 = .cmpZp zadr), (rfl : opcodeOperandBytes 0xC5#8 = 1), rfl⟩
theorem OpcodeRow.decZp (zadr : Byte) : OpcodeRow.Statement (.decZp zadr) :=
  ⟨(rfl : decodeOpcode 0xC6#8 zadr 0 = .decZp zadr), (rfl : opcodeOperandBytes 0xC6#8 = 1), rfl⟩
theorem OpcodeRow.smb4 (zadr : Byte) : OpcodeRow.Statement (.smb4 zadr) :=
  ⟨(rfl : decodeOpcode 0xC7#8 zadr 0 = .smb4 zadr), (rfl : opcodeOperandBytes 0xC7#8 = 1), rfl⟩
theorem OpcodeRow.cmpImm (v : Byte) : OpcodeRow.Statement (.cmpImm v) :=
  ⟨(rfl : decodeOpcode 0xC9#8 v 0 = .cmpImm v), (rfl : opcodeOperandBytes 0xC9#8 = 1), rfl⟩
theorem OpcodeRow.cpyAbs (addr : Word) : OpcodeRow.Statement (.cpyAbs addr) :=
  ⟨show decodeOpcode 0xCC#8 (loByte addr) (hiByte addr) = .cpyAbs addr
    from congrArg Instr.cpyAbs (mkWord_hi_lo addr), (rfl : opcodeOperandBytes 0xCC#8 = 2), rfl⟩
theorem OpcodeRow.cmpAbs (addr : Word) : OpcodeRow.Statement (.cmpAbs addr) :=
  ⟨show decodeOpcode 0xCD#8 (loByte addr) (hiByte addr) = .cmpAbs addr
    from congrArg Instr.cmpAbs (mkWord_hi_lo addr), (rfl : opcodeOperandBytes 0xCD#8 = 2), rfl⟩
theorem OpcodeRow.decAbs (addr : Word) : OpcodeRow.Statement (.decAbs addr) :=
  ⟨show decodeOpcode 0xCE#8 (loByte addr) (hiByte addr) = .decAbs addr
    from congrArg Instr.decAbs (mkWord_hi_lo addr), (rfl : opcodeOperandBytes 0xCE#8 = 2), rfl⟩
theorem OpcodeRow.bbs4 (zadr : Byte) (disp : Byte) : OpcodeRow.Statement (.bbs4 zadr disp) :=
  ⟨(rfl : decodeOpcode 0xCF#8 zadr disp = .bbs4 zadr disp), (rfl : opcodeOperandBytes 0xCF#8 = 2), rfl⟩
theorem OpcodeRow.bne (disp : Byte) : OpcodeRow.Statement (.bne disp) :=
  ⟨(rfl : decodeOpcode 0xD0#8 disp 0 = .bne disp), (rfl : opcodeOperandBytes 0xD0#8 = 1), rfl⟩
theorem OpcodeRow.cmpIzy (zadr : Byte) : OpcodeRow.Statement (.cmpIzy zadr) :=
  ⟨(rfl : decodeOpcode 0xD1#8 zadr 0 = .cmpIzy zadr), (rfl : opcodeOperandBytes 0xD1#8 = 1), rfl⟩
theorem OpcodeRow.cmpIzp (zadr : Byte) : OpcodeRow.Statement (.cmpIzp zadr) :=
  ⟨(rfl : decodeOpcode 0xD2#8 zadr 0 = .cmpIzp zadr), (rfl : opcodeOperandBytes 0xD2#8 = 1), rfl⟩
theorem OpcodeRow.cmpZpx (zadr : Byte) : OpcodeRow.Statement (.cmpZpx zadr) :=
  ⟨(rfl : decodeOpcode 0xD5#8 zadr 0 = .cmpZpx zadr), (rfl : opcodeOperandBytes 0xD5#8 = 1), rfl⟩
theorem OpcodeRow.decZpx (zadr : Byte) : OpcodeRow.Statement (.decZpx zadr) :=
  ⟨(rfl : decodeOpcode 0xD6#8 zadr 0 = .decZpx zadr), (rfl : opcodeOperandBytes 0xD6#8 = 1), rfl⟩
theorem OpcodeRow.smb5 (zadr : Byte) : OpcodeRow.Statement (.smb5 zadr) :=
  ⟨(rfl : decodeOpcode 0xD7#8 zadr 0 = .smb5 zadr), (rfl : opcodeOperandBytes 0xD7#8 = 1), rfl⟩
theorem OpcodeRow.cmpAby (addr : Word) : OpcodeRow.Statement (.cmpAby addr) :=
  ⟨show decodeOpcode 0xD9#8 (loByte addr) (hiByte addr) = .cmpAby addr
    from congrArg Instr.cmpAby (mkWord_hi_lo addr), (rfl : opcodeOperandBytes 0xD9#8 = 2), rfl⟩
theorem OpcodeRow.cmpAbx (addr : Word) : OpcodeRow.Statement (.cmpAbx addr) :=
  ⟨show decodeOpcode 0xDD#8 (loByte addr) (hiByte addr) = .cmpAbx addr
    from congrArg Instr.cmpAbx (mkWord_hi_lo addr), (rfl : opcodeOperandBytes 0xDD#8 = 2), rfl⟩
theorem OpcodeRow.decAbx (addr : Word) : OpcodeRow.Statement (.decAbx addr) :=
  ⟨show decodeOpcode 0xDE#8 (loByte addr) (hiByte addr) = .decAbx addr
    from congrArg Instr.decAbx (mkWord_hi_lo addr), (rfl : opcodeOperandBytes 0xDE#8 = 2), rfl⟩
theorem OpcodeRow.bbs5 (zadr : Byte) (disp : Byte) : OpcodeRow.Statement (.bbs5 zadr disp) :=
  ⟨(rfl : decodeOpcode 0xDF#8 zadr disp = .bbs5 zadr disp), (rfl : opcodeOperandBytes 0xDF#8 = 2), rfl⟩
theorem OpcodeRow.cpxImm (v : Byte) : OpcodeRow.Statement (.cpxImm v) :=
  ⟨(rfl : decodeOpcode 0xE0#8 v 0 = .cpxImm v), (rfl : opcodeOperandBytes 0xE0#8 = 1), rfl⟩
theorem OpcodeRow.sbcIzx (zadr : Byte) : OpcodeRow.Statement (.sbcIzx zadr) :=
  ⟨(rfl : decodeOpcode 0xE1#8 zadr 0 = .sbcIzx zadr), (rfl : opcodeOperandBytes 0xE1#8 = 1), rfl⟩
theorem OpcodeRow.cpxZp (zadr : Byte) : OpcodeRow.Statement (.cpxZp zadr) :=
  ⟨(rfl : decodeOpcode 0xE4#8 zadr 0 = .cpxZp zadr), (rfl : opcodeOperandBytes 0xE4#8 = 1), rfl⟩
theorem OpcodeRow.sbcZp (zadr : Byte) : OpcodeRow.Statement (.sbcZp zadr) :=
  ⟨(rfl : decodeOpcode 0xE5#8 zadr 0 = .sbcZp zadr), (rfl : opcodeOperandBytes 0xE5#8 = 1), rfl⟩
theorem OpcodeRow.incZp (zadr : Byte) : OpcodeRow.Statement (.incZp zadr) :=
  ⟨(rfl : decodeOpcode 0xE6#8 zadr 0 = .incZp zadr), (rfl : opcodeOperandBytes 0xE6#8 = 1), rfl⟩
theorem OpcodeRow.smb6 (zadr : Byte) : OpcodeRow.Statement (.smb6 zadr) :=
  ⟨(rfl : decodeOpcode 0xE7#8 zadr 0 = .smb6 zadr), (rfl : opcodeOperandBytes 0xE7#8 = 1), rfl⟩
theorem OpcodeRow.sbcImm (v : Byte) : OpcodeRow.Statement (.sbcImm v) :=
  ⟨(rfl : decodeOpcode 0xE9#8 v 0 = .sbcImm v), (rfl : opcodeOperandBytes 0xE9#8 = 1), rfl⟩
theorem OpcodeRow.cpxAbs (addr : Word) : OpcodeRow.Statement (.cpxAbs addr) :=
  ⟨show decodeOpcode 0xEC#8 (loByte addr) (hiByte addr) = .cpxAbs addr
    from congrArg Instr.cpxAbs (mkWord_hi_lo addr), (rfl : opcodeOperandBytes 0xEC#8 = 2), rfl⟩
theorem OpcodeRow.sbcAbs (addr : Word) : OpcodeRow.Statement (.sbcAbs addr) :=
  ⟨show decodeOpcode 0xED#8 (loByte addr) (hiByte addr) = .sbcAbs addr
    from congrArg Instr.sbcAbs (mkWord_hi_lo addr), (rfl : opcodeOperandBytes 0xED#8 = 2), rfl⟩
theorem OpcodeRow.incAbs (addr : Word) : OpcodeRow.Statement (.incAbs addr) :=
  ⟨show decodeOpcode 0xEE#8 (loByte addr) (hiByte addr) = .incAbs addr
    from congrArg Instr.incAbs (mkWord_hi_lo addr), (rfl : opcodeOperandBytes 0xEE#8 = 2), rfl⟩
theorem OpcodeRow.bbs6 (zadr : Byte) (disp : Byte) : OpcodeRow.Statement (.bbs6 zadr disp) :=
  ⟨(rfl : decodeOpcode 0xEF#8 zadr disp = .bbs6 zadr disp), (rfl : opcodeOperandBytes 0xEF#8 = 2), rfl⟩
theorem OpcodeRow.beq (disp : Byte) : OpcodeRow.Statement (.beq disp) :=
  ⟨(rfl : decodeOpcode 0xF0#8 disp 0 = .beq disp), (rfl : opcodeOperandBytes 0xF0#8 = 1), rfl⟩
theorem OpcodeRow.sbcIzy (zadr : Byte) : OpcodeRow.Statement (.sbcIzy zadr) :=
  ⟨(rfl : decodeOpcode 0xF1#8 zadr 0 = .sbcIzy zadr), (rfl : opcodeOperandBytes 0xF1#8 = 1), rfl⟩
theorem OpcodeRow.sbcIzp (zadr : Byte) : OpcodeRow.Statement (.sbcIzp zadr) :=
  ⟨(rfl : decodeOpcode 0xF2#8 zadr 0 = .sbcIzp zadr), (rfl : opcodeOperandBytes 0xF2#8 = 1), rfl⟩
theorem OpcodeRow.sbcZpx (zadr : Byte) : OpcodeRow.Statement (.sbcZpx zadr) :=
  ⟨(rfl : decodeOpcode 0xF5#8 zadr 0 = .sbcZpx zadr), (rfl : opcodeOperandBytes 0xF5#8 = 1), rfl⟩
theorem OpcodeRow.incZpx (zadr : Byte) : OpcodeRow.Statement (.incZpx zadr) :=
  ⟨(rfl : decodeOpcode 0xF6#8 zadr 0 = .incZpx zadr), (rfl : opcodeOperandBytes 0xF6#8 = 1), rfl⟩
theorem OpcodeRow.smb7 (zadr : Byte) : OpcodeRow.Statement (.smb7 zadr) :=
  ⟨(rfl : decodeOpcode 0xF7#8 zadr 0 = .smb7 zadr), (rfl : opcodeOperandBytes 0xF7#8 = 1), rfl⟩
theorem OpcodeRow.sbcAby (addr : Word) : OpcodeRow.Statement (.sbcAby addr) :=
  ⟨show decodeOpcode 0xF9#8 (loByte addr) (hiByte addr) = .sbcAby addr
    from congrArg Instr.sbcAby (mkWord_hi_lo addr), (rfl : opcodeOperandBytes 0xF9#8 = 2), rfl⟩
theorem OpcodeRow.sbcAbx (addr : Word) : OpcodeRow.Statement (.sbcAbx addr) :=
  ⟨show decodeOpcode 0xFD#8 (loByte addr) (hiByte addr) = .sbcAbx addr
    from congrArg Instr.sbcAbx (mkWord_hi_lo addr), (rfl : opcodeOperandBytes 0xFD#8 = 2), rfl⟩
theorem OpcodeRow.incAbx (addr : Word) : OpcodeRow.Statement (.incAbx addr) :=
  ⟨show decodeOpcode 0xFE#8 (loByte addr) (hiByte addr) = .incAbx addr
    from congrArg Instr.incAbx (mkWord_hi_lo addr), (rfl : opcodeOperandBytes 0xFE#8 = 2), rfl⟩
theorem OpcodeRow.bbs7 (zadr : Byte) (disp : Byte) : OpcodeRow.Statement (.bbs7 zadr disp) :=
  ⟨(rfl : decodeOpcode 0xFF#8 zadr disp = .bbs7 zadr disp), (rfl : opcodeOperandBytes 0xFF#8 = 2), rfl⟩
theorem OpcodeRow.brk : OpcodeRow.Statement (.brk) :=
  ⟨(rfl : decodeOpcode 0x00#8 0 0 = .brk), (rfl : opcodeOperandBytes 0x00#8 = 0), rfl⟩
theorem OpcodeRow.ill02 : OpcodeRow.Statement (.ill02) :=
  ⟨(rfl : decodeOpcode 0x02#8 0 0 = .ill02), (rfl : opcodeOperandBytes 0x02#8 = 0), rfl⟩
theorem OpcodeRow.ill03 : OpcodeRow.Statement (.ill03) :=
  ⟨(rfl : decodeOpcode 0x03#8 0 0 = .ill03), (rfl : opcodeOperandBytes 0x03#8 = 0), rfl⟩
theorem OpcodeRow.php : OpcodeRow.Statement (.php) :=
  ⟨(rfl : decodeOpcode 0x08#8 0 0 = .php), (rfl : opcodeOperandBytes 0x08#8 = 0), rfl⟩
theorem OpcodeRow.aslAcc : OpcodeRow.Statement (.aslAcc) :=
  ⟨(rfl : decodeOpcode 0x0A#8 0 0 = .aslAcc), (rfl : opcodeOperandBytes 0x0A#8 = 0), rfl⟩
theorem OpcodeRow.ill0B : OpcodeRow.Statement (.ill0B) :=
  ⟨(rfl : decodeOpcode 0x0B#8 0 0 = .ill0B), (rfl : opcodeOperandBytes 0x0B#8 = 0), rfl⟩
theorem OpcodeRow.ill13 : OpcodeRow.Statement (.ill13) :=
  ⟨(rfl : decodeOpcode 0x13#8 0 0 = .ill13), (rfl : opcodeOperandBytes 0x13#8 = 0), rfl⟩
theorem OpcodeRow.clc : OpcodeRow.Statement (.clc) :=
  ⟨(rfl : decodeOpcode 0x18#8 0 0 = .clc), (rfl : opcodeOperandBytes 0x18#8 = 0), rfl⟩
theorem OpcodeRow.incAcc : OpcodeRow.Statement (.incAcc) :=
  ⟨(rfl : decodeOpcode 0x1A#8 0 0 = .incAcc), (rfl : opcodeOperandBytes 0x1A#8 = 0), rfl⟩
theorem OpcodeRow.ill1B : OpcodeRow.Statement (.ill1B) :=
  ⟨(rfl : decodeOpcode 0x1B#8 0 0 = .ill1B), (rfl : opcodeOperandBytes 0x1B#8 = 0), rfl⟩
theorem OpcodeRow.ill22 : OpcodeRow.Statement (.ill22) :=
  ⟨(rfl : decodeOpcode 0x22#8 0 0 = .ill22), (rfl : opcodeOperandBytes 0x22#8 = 0), rfl⟩
theorem OpcodeRow.ill23 : OpcodeRow.Statement (.ill23) :=
  ⟨(rfl : decodeOpcode 0x23#8 0 0 = .ill23), (rfl : opcodeOperandBytes 0x23#8 = 0), rfl⟩
theorem OpcodeRow.plp : OpcodeRow.Statement (.plp) :=
  ⟨(rfl : decodeOpcode 0x28#8 0 0 = .plp), (rfl : opcodeOperandBytes 0x28#8 = 0), rfl⟩
theorem OpcodeRow.rolAcc : OpcodeRow.Statement (.rolAcc) :=
  ⟨(rfl : decodeOpcode 0x2A#8 0 0 = .rolAcc), (rfl : opcodeOperandBytes 0x2A#8 = 0), rfl⟩
theorem OpcodeRow.ill2B : OpcodeRow.Statement (.ill2B) :=
  ⟨(rfl : decodeOpcode 0x2B#8 0 0 = .ill2B), (rfl : opcodeOperandBytes 0x2B#8 = 0), rfl⟩
theorem OpcodeRow.ill33 : OpcodeRow.Statement (.ill33) :=
  ⟨(rfl : decodeOpcode 0x33#8 0 0 = .ill33), (rfl : opcodeOperandBytes 0x33#8 = 0), rfl⟩
theorem OpcodeRow.sec : OpcodeRow.Statement (.sec) :=
  ⟨(rfl : decodeOpcode 0x38#8 0 0 = .sec), (rfl : opcodeOperandBytes 0x38#8 = 0), rfl⟩
theorem OpcodeRow.decAcc : OpcodeRow.Statement (.decAcc) :=
  ⟨(rfl : decodeOpcode 0x3A#8 0 0 = .decAcc), (rfl : opcodeOperandBytes 0x3A#8 = 0), rfl⟩
theorem OpcodeRow.ill3B : OpcodeRow.Statement (.ill3B) :=
  ⟨(rfl : decodeOpcode 0x3B#8 0 0 = .ill3B), (rfl : opcodeOperandBytes 0x3B#8 = 0), rfl⟩
theorem OpcodeRow.rti : OpcodeRow.Statement (.rti) :=
  ⟨(rfl : decodeOpcode 0x40#8 0 0 = .rti), (rfl : opcodeOperandBytes 0x40#8 = 0), rfl⟩
theorem OpcodeRow.ill42 : OpcodeRow.Statement (.ill42) :=
  ⟨(rfl : decodeOpcode 0x42#8 0 0 = .ill42), (rfl : opcodeOperandBytes 0x42#8 = 0), rfl⟩
theorem OpcodeRow.ill43 : OpcodeRow.Statement (.ill43) :=
  ⟨(rfl : decodeOpcode 0x43#8 0 0 = .ill43), (rfl : opcodeOperandBytes 0x43#8 = 0), rfl⟩
theorem OpcodeRow.ill44 : OpcodeRow.Statement (.ill44) :=
  ⟨(rfl : decodeOpcode 0x44#8 0 0 = .ill44), (rfl : opcodeOperandBytes 0x44#8 = 0), rfl⟩
theorem OpcodeRow.pha : OpcodeRow.Statement (.pha) :=
  ⟨(rfl : decodeOpcode 0x48#8 0 0 = .pha), (rfl : opcodeOperandBytes 0x48#8 = 0), rfl⟩
theorem OpcodeRow.lsrAcc : OpcodeRow.Statement (.lsrAcc) :=
  ⟨(rfl : decodeOpcode 0x4A#8 0 0 = .lsrAcc), (rfl : opcodeOperandBytes 0x4A#8 = 0), rfl⟩
theorem OpcodeRow.ill4B : OpcodeRow.Statement (.ill4B) :=
  ⟨(rfl : decodeOpcode 0x4B#8 0 0 = .ill4B), (rfl : opcodeOperandBytes 0x4B#8 = 0), rfl⟩
theorem OpcodeRow.ill53 : OpcodeRow.Statement (.ill53) :=
  ⟨(rfl : decodeOpcode 0x53#8 0 0 = .ill53), (rfl : opcodeOperandBytes 0x53#8 = 0), rfl⟩
theorem OpcodeRow.ill54 : OpcodeRow.Statement (.ill54) :=
  ⟨(rfl : decodeOpcode 0x54#8 0 0 = .ill54), (rfl : opcodeOperandBytes 0x54#8 = 0), rfl⟩
theorem OpcodeRow.cli : OpcodeRow.Statement (.cli) :=
  ⟨(rfl : decodeOpcode 0x58#8 0 0 = .cli), (rfl : opcodeOperandBytes 0x58#8 = 0), rfl⟩
theorem OpcodeRow.phy : OpcodeRow.Statement (.phy) :=
  ⟨(rfl : decodeOpcode 0x5A#8 0 0 = .phy), (rfl : opcodeOperandBytes 0x5A#8 = 0), rfl⟩
theorem OpcodeRow.ill5B : OpcodeRow.Statement (.ill5B) :=
  ⟨(rfl : decodeOpcode 0x5B#8 0 0 = .ill5B), (rfl : opcodeOperandBytes 0x5B#8 = 0), rfl⟩
theorem OpcodeRow.ill5C : OpcodeRow.Statement (.ill5C) :=
  ⟨(rfl : decodeOpcode 0x5C#8 0 0 = .ill5C), (rfl : opcodeOperandBytes 0x5C#8 = 0), rfl⟩
theorem OpcodeRow.rts : OpcodeRow.Statement (.rts) :=
  ⟨(rfl : decodeOpcode 0x60#8 0 0 = .rts), (rfl : opcodeOperandBytes 0x60#8 = 0), rfl⟩
theorem OpcodeRow.ill62 : OpcodeRow.Statement (.ill62) :=
  ⟨(rfl : decodeOpcode 0x62#8 0 0 = .ill62), (rfl : opcodeOperandBytes 0x62#8 = 0), rfl⟩
theorem OpcodeRow.ill63 : OpcodeRow.Statement (.ill63) :=
  ⟨(rfl : decodeOpcode 0x63#8 0 0 = .ill63), (rfl : opcodeOperandBytes 0x63#8 = 0), rfl⟩
theorem OpcodeRow.pla : OpcodeRow.Statement (.pla) :=
  ⟨(rfl : decodeOpcode 0x68#8 0 0 = .pla), (rfl : opcodeOperandBytes 0x68#8 = 0), rfl⟩
theorem OpcodeRow.rorAcc : OpcodeRow.Statement (.rorAcc) :=
  ⟨(rfl : decodeOpcode 0x6A#8 0 0 = .rorAcc), (rfl : opcodeOperandBytes 0x6A#8 = 0), rfl⟩
theorem OpcodeRow.ill6B : OpcodeRow.Statement (.ill6B) :=
  ⟨(rfl : decodeOpcode 0x6B#8 0 0 = .ill6B), (rfl : opcodeOperandBytes 0x6B#8 = 0), rfl⟩
theorem OpcodeRow.ill73 : OpcodeRow.Statement (.ill73) :=
  ⟨(rfl : decodeOpcode 0x73#8 0 0 = .ill73), (rfl : opcodeOperandBytes 0x73#8 = 0), rfl⟩
theorem OpcodeRow.sei : OpcodeRow.Statement (.sei) :=
  ⟨(rfl : decodeOpcode 0x78#8 0 0 = .sei), (rfl : opcodeOperandBytes 0x78#8 = 0), rfl⟩
theorem OpcodeRow.ply : OpcodeRow.Statement (.ply) :=
  ⟨(rfl : decodeOpcode 0x7A#8 0 0 = .ply), (rfl : opcodeOperandBytes 0x7A#8 = 0), rfl⟩
theorem OpcodeRow.ill7B : OpcodeRow.Statement (.ill7B) :=
  ⟨(rfl : decodeOpcode 0x7B#8 0 0 = .ill7B), (rfl : opcodeOperandBytes 0x7B#8 = 0), rfl⟩
theorem OpcodeRow.ill82 : OpcodeRow.Statement (.ill82) :=
  ⟨(rfl : decodeOpcode 0x82#8 0 0 = .ill82), (rfl : opcodeOperandBytes 0x82#8 = 0), rfl⟩
theorem OpcodeRow.ill83 : OpcodeRow.Statement (.ill83) :=
  ⟨(rfl : decodeOpcode 0x83#8 0 0 = .ill83), (rfl : opcodeOperandBytes 0x83#8 = 0), rfl⟩
theorem OpcodeRow.dey : OpcodeRow.Statement (.dey) :=
  ⟨(rfl : decodeOpcode 0x88#8 0 0 = .dey), (rfl : opcodeOperandBytes 0x88#8 = 0), rfl⟩
theorem OpcodeRow.txa : OpcodeRow.Statement (.txa) :=
  ⟨(rfl : decodeOpcode 0x8A#8 0 0 = .txa), (rfl : opcodeOperandBytes 0x8A#8 = 0), rfl⟩
theorem OpcodeRow.ill8B : OpcodeRow.Statement (.ill8B) :=
  ⟨(rfl : decodeOpcode 0x8B#8 0 0 = .ill8B), (rfl : opcodeOperandBytes 0x8B#8 = 0), rfl⟩
theorem OpcodeRow.ill93 : OpcodeRow.Statement (.ill93) :=
  ⟨(rfl : decodeOpcode 0x93#8 0 0 = .ill93), (rfl : opcodeOperandBytes 0x93#8 = 0), rfl⟩
theorem OpcodeRow.tya : OpcodeRow.Statement (.tya) :=
  ⟨(rfl : decodeOpcode 0x98#8 0 0 = .tya), (rfl : opcodeOperandBytes 0x98#8 = 0), rfl⟩
theorem OpcodeRow.txs : OpcodeRow.Statement (.txs) :=
  ⟨(rfl : decodeOpcode 0x9A#8 0 0 = .txs), (rfl : opcodeOperandBytes 0x9A#8 = 0), rfl⟩
theorem OpcodeRow.ill9B : OpcodeRow.Statement (.ill9B) :=
  ⟨(rfl : decodeOpcode 0x9B#8 0 0 = .ill9B), (rfl : opcodeOperandBytes 0x9B#8 = 0), rfl⟩
theorem OpcodeRow.illA3 : OpcodeRow.Statement (.illA3) :=
  ⟨(rfl : decodeOpcode 0xA3#8 0 0 = .illA3), (rfl : opcodeOperandBytes 0xA3#8 = 0), rfl⟩
theorem OpcodeRow.tay : OpcodeRow.Statement (.tay) :=
  ⟨(rfl : decodeOpcode 0xA8#8 0 0 = .tay), (rfl : opcodeOperandBytes 0xA8#8 = 0), rfl⟩
theorem OpcodeRow.tax : OpcodeRow.Statement (.tax) :=
  ⟨(rfl : decodeOpcode 0xAA#8 0 0 = .tax), (rfl : opcodeOperandBytes 0xAA#8 = 0), rfl⟩
theorem OpcodeRow.illAB : OpcodeRow.Statement (.illAB) :=
  ⟨(rfl : decodeOpcode 0xAB#8 0 0 = .illAB), (rfl : opcodeOperandBytes 0xAB#8 = 0), rfl⟩
theorem OpcodeRow.illB3 : OpcodeRow.Statement (.illB3) :=
  ⟨(rfl : decodeOpcode 0xB3#8 0 0 = .illB3), (rfl : opcodeOperandBytes 0xB3#8 = 0), rfl⟩
theorem OpcodeRow.clv : OpcodeRow.Statement (.clv) :=
  ⟨(rfl : decodeOpcode 0xB8#8 0 0 = .clv), (rfl : opcodeOperandBytes 0xB8#8 = 0), rfl⟩
theorem OpcodeRow.tsx : OpcodeRow.Statement (.tsx) :=
  ⟨(rfl : decodeOpcode 0xBA#8 0 0 = .tsx), (rfl : opcodeOperandBytes 0xBA#8 = 0), rfl⟩
theorem OpcodeRow.illBB : OpcodeRow.Statement (.illBB) :=
  ⟨(rfl : decodeOpcode 0xBB#8 0 0 = .illBB), (rfl : opcodeOperandBytes 0xBB#8 = 0), rfl⟩
theorem OpcodeRow.illC2 : OpcodeRow.Statement (.illC2) :=
  ⟨(rfl : decodeOpcode 0xC2#8 0 0 = .illC2), (rfl : opcodeOperandBytes 0xC2#8 = 0), rfl⟩
theorem OpcodeRow.illC3 : OpcodeRow.Statement (.illC3) :=
  ⟨(rfl : decodeOpcode 0xC3#8 0 0 = .illC3), (rfl : opcodeOperandBytes 0xC3#8 = 0), rfl⟩
theorem OpcodeRow.iny : OpcodeRow.Statement (.iny) :=
  ⟨(rfl : decodeOpcode 0xC8#8 0 0 = .iny), (rfl : opcodeOperandBytes 0xC8#8 = 0), rfl⟩
theorem OpcodeRow.dex : OpcodeRow.Statement (.dex) :=
  ⟨(rfl : decodeOpcode 0xCA#8 0 0 = .dex), (rfl : opcodeOperandBytes 0xCA#8 = 0), rfl⟩
theorem OpcodeRow.wai : OpcodeRow.Statement (.wai) :=
  ⟨(rfl : decodeOpcode 0xCB#8 0 0 = .wai), (rfl : opcodeOperandBytes 0xCB#8 = 0), rfl⟩
theorem OpcodeRow.illD3 : OpcodeRow.Statement (.illD3) :=
  ⟨(rfl : decodeOpcode 0xD3#8 0 0 = .illD3), (rfl : opcodeOperandBytes 0xD3#8 = 0), rfl⟩
theorem OpcodeRow.illD4 : OpcodeRow.Statement (.illD4) :=
  ⟨(rfl : decodeOpcode 0xD4#8 0 0 = .illD4), (rfl : opcodeOperandBytes 0xD4#8 = 0), rfl⟩
theorem OpcodeRow.cld : OpcodeRow.Statement (.cld) :=
  ⟨(rfl : decodeOpcode 0xD8#8 0 0 = .cld), (rfl : opcodeOperandBytes 0xD8#8 = 0), rfl⟩
theorem OpcodeRow.phx : OpcodeRow.Statement (.phx) :=
  ⟨(rfl : decodeOpcode 0xDA#8 0 0 = .phx), (rfl : opcodeOperandBytes 0xDA#8 = 0), rfl⟩
theorem OpcodeRow.stp : OpcodeRow.Statement (.stp) :=
  ⟨(rfl : decodeOpcode 0xDB#8 0 0 = .stp), (rfl : opcodeOperandBytes 0xDB#8 = 0), rfl⟩
theorem OpcodeRow.illDC : OpcodeRow.Statement (.illDC) :=
  ⟨(rfl : decodeOpcode 0xDC#8 0 0 = .illDC), (rfl : opcodeOperandBytes 0xDC#8 = 0), rfl⟩
theorem OpcodeRow.illE2 : OpcodeRow.Statement (.illE2) :=
  ⟨(rfl : decodeOpcode 0xE2#8 0 0 = .illE2), (rfl : opcodeOperandBytes 0xE2#8 = 0), rfl⟩
theorem OpcodeRow.illE3 : OpcodeRow.Statement (.illE3) :=
  ⟨(rfl : decodeOpcode 0xE3#8 0 0 = .illE3), (rfl : opcodeOperandBytes 0xE3#8 = 0), rfl⟩
theorem OpcodeRow.inx : OpcodeRow.Statement (.inx) :=
  ⟨(rfl : decodeOpcode 0xE8#8 0 0 = .inx), (rfl : opcodeOperandBytes 0xE8#8 = 0), rfl⟩
theorem OpcodeRow.nop : OpcodeRow.Statement (.nop) :=
  ⟨(rfl : decodeOpcode 0xEA#8 0 0 = .nop), (rfl : opcodeOperandBytes 0xEA#8 = 0), rfl⟩
theorem OpcodeRow.illEB : OpcodeRow.Statement (.illEB) :=
  ⟨(rfl : decodeOpcode 0xEB#8 0 0 = .illEB), (rfl : opcodeOperandBytes 0xEB#8 = 0), rfl⟩
theorem OpcodeRow.illF3 : OpcodeRow.Statement (.illF3) :=
  ⟨(rfl : decodeOpcode 0xF3#8 0 0 = .illF3), (rfl : opcodeOperandBytes 0xF3#8 = 0), rfl⟩
theorem OpcodeRow.illF4 : OpcodeRow.Statement (.illF4) :=
  ⟨(rfl : decodeOpcode 0xF4#8 0 0 = .illF4), (rfl : opcodeOperandBytes 0xF4#8 = 0), rfl⟩
theorem OpcodeRow.sed : OpcodeRow.Statement (.sed) :=
  ⟨(rfl : decodeOpcode 0xF8#8 0 0 = .sed), (rfl : opcodeOperandBytes 0xF8#8 = 0), rfl⟩
theorem OpcodeRow.plx : OpcodeRow.Statement (.plx) :=
  ⟨(rfl : decodeOpcode 0xFA#8 0 0 = .plx), (rfl : opcodeOperandBytes 0xFA#8 = 0), rfl⟩
theorem OpcodeRow.illFB : OpcodeRow.Statement (.illFB) :=
  ⟨(rfl : decodeOpcode 0xFB#8 0 0 = .illFB), (rfl : opcodeOperandBytes 0xFB#8 = 0), rfl⟩
theorem OpcodeRow.illFC : OpcodeRow.Statement (.illFC) :=
  ⟨(rfl : decodeOpcode 0xFC#8 0 0 = .illFC), (rfl : opcodeOperandBytes 0xFC#8 = 0), rfl⟩

end Sys2Proof.Laws
end

