-- ==== Sys2Proof/Tests/Slice0.lean ====
section
/-!
SUPPORT. The model's own tests: the well-formedness check refuses ill-formed pairs; every opcode's word
decodes to its instruction (opcode_table.json); one step each of vectors of 95_test_vectors.md, whose
expected values are the spec's; and a witness for the hypotheses of every statement that has some.
-/

namespace Sys2Proof.Tests

open Sys2Proof.Machine

/-! ### The well-formedness check -/

/-- A store has no immediate form (R143). -/
theorem test_wf_sta_imm : formAllowed .sta .imm = false := by decide
/-- LDX has no X-indexed form (R141). -/
theorem test_wf_ldx_zpx : formAllowed .ldx .zpx = false := by decide
/-- STZ has no indirect form (R146). -/
theorem test_wf_stz_izy : formAllowed .stz .izy = false := by decide
/-- JSR is absolute only (R213). -/
theorem test_wf_jsr_ind : formAllowed .jsr .ind = false := by decide
/-- A relative branch has no absolute form (R200). -/
theorem test_wf_bne_abs : formAllowed .bne .abs = false := by decide
/-- A bit branch needs its displacement (R210). -/
theorem test_wf_bbr_zp : formAllowed (.bbr 3) .zp = false := by decide
/-- RMB is zero page only (R190). -/
theorem test_wf_rmb_abs : formAllowed (.rmb 0) .abs = false := by decide
/-- TRB has no indexed form (R188). -/
theorem test_wf_trb_abx : formAllowed .trb .abx = false := by decide
/-- INX has no operand (R169). -/
theorem test_wf_inx_acc : formAllowed .inx .acc = false := by decide
/-- Too few bytes are no instruction (R80). -/
theorem test_decode_truncated : decode [] = .error .noOpcode ∧ decode [0xAD#8, 0x00#8] = .error (.truncated 0xAD#8) :=
  ⟨rfl, rfl⟩

/-! ### Decoding -/

/-- Row 0x of the opcode table: opcode, then the operand bytes 34 and 12, as opcode_table.json numbers the bits. -/
theorem test_decode_row_0 :
    decodeTableWord 8 0x00 = some .brk ∧
    decodeTableWord 16 0x3401 = some (.oraIzx 0x34#8) ∧
    decodeTableWord 8 0x02 = some .ill02 ∧
    decodeTableWord 8 0x03 = some .ill03 ∧
    decodeTableWord 16 0x3404 = some (.tsbZp 0x34#8) ∧
    decodeTableWord 16 0x3405 = some (.oraZp 0x34#8) ∧
    decodeTableWord 16 0x3406 = some (.aslZp 0x34#8) ∧
    decodeTableWord 16 0x3407 = some (.rmb0 0x34#8) ∧
    decodeTableWord 8 0x08 = some .php ∧
    decodeTableWord 16 0x3409 = some (.oraImm 0x34#8) ∧
    decodeTableWord 8 0x0A = some .aslAcc ∧
    decodeTableWord 8 0x0B = some .ill0B ∧
    decodeTableWord 24 0x12340C = some (.tsbAbs 0x1234#16) ∧
    decodeTableWord 24 0x12340D = some (.oraAbs 0x1234#16) ∧
    decodeTableWord 24 0x12340E = some (.aslAbs 0x1234#16) ∧
    decodeTableWord 24 0x12340F = some (.bbr0 0x34#8 0x12#8) := by
  decide

/-- Row 1x of the opcode table: opcode, then the operand bytes 34 and 12, as opcode_table.json numbers the bits. -/
theorem test_decode_row_1 :
    decodeTableWord 16 0x3410 = some (.bpl 0x34#8) ∧
    decodeTableWord 16 0x3411 = some (.oraIzy 0x34#8) ∧
    decodeTableWord 16 0x3412 = some (.oraIzp 0x34#8) ∧
    decodeTableWord 8 0x13 = some .ill13 ∧
    decodeTableWord 16 0x3414 = some (.trbZp 0x34#8) ∧
    decodeTableWord 16 0x3415 = some (.oraZpx 0x34#8) ∧
    decodeTableWord 16 0x3416 = some (.aslZpx 0x34#8) ∧
    decodeTableWord 16 0x3417 = some (.rmb1 0x34#8) ∧
    decodeTableWord 8 0x18 = some .clc ∧
    decodeTableWord 24 0x123419 = some (.oraAby 0x1234#16) ∧
    decodeTableWord 8 0x1A = some .incAcc ∧
    decodeTableWord 8 0x1B = some .ill1B ∧
    decodeTableWord 24 0x12341C = some (.trbAbs 0x1234#16) ∧
    decodeTableWord 24 0x12341D = some (.oraAbx 0x1234#16) ∧
    decodeTableWord 24 0x12341E = some (.aslAbx 0x1234#16) ∧
    decodeTableWord 24 0x12341F = some (.bbr1 0x34#8 0x12#8) := by
  decide

/-- Row 2x of the opcode table: opcode, then the operand bytes 34 and 12, as opcode_table.json numbers the bits. -/
theorem test_decode_row_2 :
    decodeTableWord 24 0x123420 = some (.jsr 0x1234#16) ∧
    decodeTableWord 16 0x3421 = some (.andIzx 0x34#8) ∧
    decodeTableWord 8 0x22 = some .ill22 ∧
    decodeTableWord 8 0x23 = some .ill23 ∧
    decodeTableWord 16 0x3424 = some (.bitZp 0x34#8) ∧
    decodeTableWord 16 0x3425 = some (.andZp 0x34#8) ∧
    decodeTableWord 16 0x3426 = some (.rolZp 0x34#8) ∧
    decodeTableWord 16 0x3427 = some (.rmb2 0x34#8) ∧
    decodeTableWord 8 0x28 = some .plp ∧
    decodeTableWord 16 0x3429 = some (.andImm 0x34#8) ∧
    decodeTableWord 8 0x2A = some .rolAcc ∧
    decodeTableWord 8 0x2B = some .ill2B ∧
    decodeTableWord 24 0x12342C = some (.bitAbs 0x1234#16) ∧
    decodeTableWord 24 0x12342D = some (.andAbs 0x1234#16) ∧
    decodeTableWord 24 0x12342E = some (.rolAbs 0x1234#16) ∧
    decodeTableWord 24 0x12342F = some (.bbr2 0x34#8 0x12#8) := by
  decide

/-- Row 3x of the opcode table: opcode, then the operand bytes 34 and 12, as opcode_table.json numbers the bits. -/
theorem test_decode_row_3 :
    decodeTableWord 16 0x3430 = some (.bmi 0x34#8) ∧
    decodeTableWord 16 0x3431 = some (.andIzy 0x34#8) ∧
    decodeTableWord 16 0x3432 = some (.andIzp 0x34#8) ∧
    decodeTableWord 8 0x33 = some .ill33 ∧
    decodeTableWord 16 0x3434 = some (.bitZpx 0x34#8) ∧
    decodeTableWord 16 0x3435 = some (.andZpx 0x34#8) ∧
    decodeTableWord 16 0x3436 = some (.rolZpx 0x34#8) ∧
    decodeTableWord 16 0x3437 = some (.rmb3 0x34#8) ∧
    decodeTableWord 8 0x38 = some .sec ∧
    decodeTableWord 24 0x123439 = some (.andAby 0x1234#16) ∧
    decodeTableWord 8 0x3A = some .decAcc ∧
    decodeTableWord 8 0x3B = some .ill3B ∧
    decodeTableWord 24 0x12343C = some (.bitAbx 0x1234#16) ∧
    decodeTableWord 24 0x12343D = some (.andAbx 0x1234#16) ∧
    decodeTableWord 24 0x12343E = some (.rolAbx 0x1234#16) ∧
    decodeTableWord 24 0x12343F = some (.bbr3 0x34#8 0x12#8) := by
  decide

/-- Row 4x of the opcode table: opcode, then the operand bytes 34 and 12, as opcode_table.json numbers the bits. -/
theorem test_decode_row_4 :
    decodeTableWord 8 0x40 = some .rti ∧
    decodeTableWord 16 0x3441 = some (.eorIzx 0x34#8) ∧
    decodeTableWord 8 0x42 = some .ill42 ∧
    decodeTableWord 8 0x43 = some .ill43 ∧
    decodeTableWord 8 0x44 = some .ill44 ∧
    decodeTableWord 16 0x3445 = some (.eorZp 0x34#8) ∧
    decodeTableWord 16 0x3446 = some (.lsrZp 0x34#8) ∧
    decodeTableWord 16 0x3447 = some (.rmb4 0x34#8) ∧
    decodeTableWord 8 0x48 = some .pha ∧
    decodeTableWord 16 0x3449 = some (.eorImm 0x34#8) ∧
    decodeTableWord 8 0x4A = some .lsrAcc ∧
    decodeTableWord 8 0x4B = some .ill4B ∧
    decodeTableWord 24 0x12344C = some (.jmpAbs 0x1234#16) ∧
    decodeTableWord 24 0x12344D = some (.eorAbs 0x1234#16) ∧
    decodeTableWord 24 0x12344E = some (.lsrAbs 0x1234#16) ∧
    decodeTableWord 24 0x12344F = some (.bbr4 0x34#8 0x12#8) := by
  decide

/-- Row 5x of the opcode table: opcode, then the operand bytes 34 and 12, as opcode_table.json numbers the bits. -/
theorem test_decode_row_5 :
    decodeTableWord 16 0x3450 = some (.bvc 0x34#8) ∧
    decodeTableWord 16 0x3451 = some (.eorIzy 0x34#8) ∧
    decodeTableWord 16 0x3452 = some (.eorIzp 0x34#8) ∧
    decodeTableWord 8 0x53 = some .ill53 ∧
    decodeTableWord 8 0x54 = some .ill54 ∧
    decodeTableWord 16 0x3455 = some (.eorZpx 0x34#8) ∧
    decodeTableWord 16 0x3456 = some (.lsrZpx 0x34#8) ∧
    decodeTableWord 16 0x3457 = some (.rmb5 0x34#8) ∧
    decodeTableWord 8 0x58 = some .cli ∧
    decodeTableWord 24 0x123459 = some (.eorAby 0x1234#16) ∧
    decodeTableWord 8 0x5A = some .phy ∧
    decodeTableWord 8 0x5B = some .ill5B ∧
    decodeTableWord 8 0x5C = some .ill5C ∧
    decodeTableWord 24 0x12345D = some (.eorAbx 0x1234#16) ∧
    decodeTableWord 24 0x12345E = some (.lsrAbx 0x1234#16) ∧
    decodeTableWord 24 0x12345F = some (.bbr5 0x34#8 0x12#8) := by
  decide

/-- Row 6x of the opcode table: opcode, then the operand bytes 34 and 12, as opcode_table.json numbers the bits. -/
theorem test_decode_row_6 :
    decodeTableWord 8 0x60 = some .rts ∧
    decodeTableWord 16 0x3461 = some (.adcIzx 0x34#8) ∧
    decodeTableWord 8 0x62 = some .ill62 ∧
    decodeTableWord 8 0x63 = some .ill63 ∧
    decodeTableWord 16 0x3464 = some (.stzZp 0x34#8) ∧
    decodeTableWord 16 0x3465 = some (.adcZp 0x34#8) ∧
    decodeTableWord 16 0x3466 = some (.rorZp 0x34#8) ∧
    decodeTableWord 16 0x3467 = some (.rmb6 0x34#8) ∧
    decodeTableWord 8 0x68 = some .pla ∧
    decodeTableWord 16 0x3469 = some (.adcImm 0x34#8) ∧
    decodeTableWord 8 0x6A = some .rorAcc ∧
    decodeTableWord 8 0x6B = some .ill6B ∧
    decodeTableWord 24 0x12346C = some (.jmpInd 0x1234#16) ∧
    decodeTableWord 24 0x12346D = some (.adcAbs 0x1234#16) ∧
    decodeTableWord 24 0x12346E = some (.rorAbs 0x1234#16) ∧
    decodeTableWord 24 0x12346F = some (.bbr6 0x34#8 0x12#8) := by
  decide

/-- Row 7x of the opcode table: opcode, then the operand bytes 34 and 12, as opcode_table.json numbers the bits. -/
theorem test_decode_row_7 :
    decodeTableWord 16 0x3470 = some (.bvs 0x34#8) ∧
    decodeTableWord 16 0x3471 = some (.adcIzy 0x34#8) ∧
    decodeTableWord 16 0x3472 = some (.adcIzp 0x34#8) ∧
    decodeTableWord 8 0x73 = some .ill73 ∧
    decodeTableWord 16 0x3474 = some (.stzZpx 0x34#8) ∧
    decodeTableWord 16 0x3475 = some (.adcZpx 0x34#8) ∧
    decodeTableWord 16 0x3476 = some (.rorZpx 0x34#8) ∧
    decodeTableWord 16 0x3477 = some (.rmb7 0x34#8) ∧
    decodeTableWord 8 0x78 = some .sei ∧
    decodeTableWord 24 0x123479 = some (.adcAby 0x1234#16) ∧
    decodeTableWord 8 0x7A = some .ply ∧
    decodeTableWord 8 0x7B = some .ill7B ∧
    decodeTableWord 24 0x12347C = some (.jmpIax 0x1234#16) ∧
    decodeTableWord 24 0x12347D = some (.adcAbx 0x1234#16) ∧
    decodeTableWord 24 0x12347E = some (.rorAbx 0x1234#16) ∧
    decodeTableWord 24 0x12347F = some (.bbr7 0x34#8 0x12#8) := by
  decide

/-- Row 8x of the opcode table: opcode, then the operand bytes 34 and 12, as opcode_table.json numbers the bits. -/
theorem test_decode_row_8 :
    decodeTableWord 16 0x3480 = some (.bra 0x34#8) ∧
    decodeTableWord 16 0x3481 = some (.staIzx 0x34#8) ∧
    decodeTableWord 8 0x82 = some .ill82 ∧
    decodeTableWord 8 0x83 = some .ill83 ∧
    decodeTableWord 16 0x3484 = some (.styZp 0x34#8) ∧
    decodeTableWord 16 0x3485 = some (.staZp 0x34#8) ∧
    decodeTableWord 16 0x3486 = some (.stxZp 0x34#8) ∧
    decodeTableWord 16 0x3487 = some (.smb0 0x34#8) ∧
    decodeTableWord 8 0x88 = some .dey ∧
    decodeTableWord 16 0x3489 = some (.bitImm 0x34#8) ∧
    decodeTableWord 8 0x8A = some .txa ∧
    decodeTableWord 8 0x8B = some .ill8B ∧
    decodeTableWord 24 0x12348C = some (.styAbs 0x1234#16) ∧
    decodeTableWord 24 0x12348D = some (.staAbs 0x1234#16) ∧
    decodeTableWord 24 0x12348E = some (.stxAbs 0x1234#16) ∧
    decodeTableWord 24 0x12348F = some (.bbs0 0x34#8 0x12#8) := by
  decide

/-- Row 9x of the opcode table: opcode, then the operand bytes 34 and 12, as opcode_table.json numbers the bits. -/
theorem test_decode_row_9 :
    decodeTableWord 16 0x3490 = some (.bcc 0x34#8) ∧
    decodeTableWord 16 0x3491 = some (.staIzy 0x34#8) ∧
    decodeTableWord 16 0x3492 = some (.staIzp 0x34#8) ∧
    decodeTableWord 8 0x93 = some .ill93 ∧
    decodeTableWord 16 0x3494 = some (.styZpx 0x34#8) ∧
    decodeTableWord 16 0x3495 = some (.staZpx 0x34#8) ∧
    decodeTableWord 16 0x3496 = some (.stxZpy 0x34#8) ∧
    decodeTableWord 16 0x3497 = some (.smb1 0x34#8) ∧
    decodeTableWord 8 0x98 = some .tya ∧
    decodeTableWord 24 0x123499 = some (.staAby 0x1234#16) ∧
    decodeTableWord 8 0x9A = some .txs ∧
    decodeTableWord 8 0x9B = some .ill9B ∧
    decodeTableWord 24 0x12349C = some (.stzAbs 0x1234#16) ∧
    decodeTableWord 24 0x12349D = some (.staAbx 0x1234#16) ∧
    decodeTableWord 24 0x12349E = some (.stzAbx 0x1234#16) ∧
    decodeTableWord 24 0x12349F = some (.bbs1 0x34#8 0x12#8) := by
  decide

/-- Row Ax of the opcode table: opcode, then the operand bytes 34 and 12, as opcode_table.json numbers the bits. -/
theorem test_decode_row_A :
    decodeTableWord 16 0x34A0 = some (.ldyImm 0x34#8) ∧
    decodeTableWord 16 0x34A1 = some (.ldaIzx 0x34#8) ∧
    decodeTableWord 16 0x34A2 = some (.ldxImm 0x34#8) ∧
    decodeTableWord 8 0xA3 = some .illA3 ∧
    decodeTableWord 16 0x34A4 = some (.ldyZp 0x34#8) ∧
    decodeTableWord 16 0x34A5 = some (.ldaZp 0x34#8) ∧
    decodeTableWord 16 0x34A6 = some (.ldxZp 0x34#8) ∧
    decodeTableWord 16 0x34A7 = some (.smb2 0x34#8) ∧
    decodeTableWord 8 0xA8 = some .tay ∧
    decodeTableWord 16 0x34A9 = some (.ldaImm 0x34#8) ∧
    decodeTableWord 8 0xAA = some .tax ∧
    decodeTableWord 8 0xAB = some .illAB ∧
    decodeTableWord 24 0x1234AC = some (.ldyAbs 0x1234#16) ∧
    decodeTableWord 24 0x1234AD = some (.ldaAbs 0x1234#16) ∧
    decodeTableWord 24 0x1234AE = some (.ldxAbs 0x1234#16) ∧
    decodeTableWord 24 0x1234AF = some (.bbs2 0x34#8 0x12#8) := by
  decide

/-- Row Bx of the opcode table: opcode, then the operand bytes 34 and 12, as opcode_table.json numbers the bits. -/
theorem test_decode_row_B :
    decodeTableWord 16 0x34B0 = some (.bcs 0x34#8) ∧
    decodeTableWord 16 0x34B1 = some (.ldaIzy 0x34#8) ∧
    decodeTableWord 16 0x34B2 = some (.ldaIzp 0x34#8) ∧
    decodeTableWord 8 0xB3 = some .illB3 ∧
    decodeTableWord 16 0x34B4 = some (.ldyZpx 0x34#8) ∧
    decodeTableWord 16 0x34B5 = some (.ldaZpx 0x34#8) ∧
    decodeTableWord 16 0x34B6 = some (.ldxZpy 0x34#8) ∧
    decodeTableWord 16 0x34B7 = some (.smb3 0x34#8) ∧
    decodeTableWord 8 0xB8 = some .clv ∧
    decodeTableWord 24 0x1234B9 = some (.ldaAby 0x1234#16) ∧
    decodeTableWord 8 0xBA = some .tsx ∧
    decodeTableWord 8 0xBB = some .illBB ∧
    decodeTableWord 24 0x1234BC = some (.ldyAbx 0x1234#16) ∧
    decodeTableWord 24 0x1234BD = some (.ldaAbx 0x1234#16) ∧
    decodeTableWord 24 0x1234BE = some (.ldxAby 0x1234#16) ∧
    decodeTableWord 24 0x1234BF = some (.bbs3 0x34#8 0x12#8) := by
  decide

/-- Row Cx of the opcode table: opcode, then the operand bytes 34 and 12, as opcode_table.json numbers the bits. -/
theorem test_decode_row_C :
    decodeTableWord 16 0x34C0 = some (.cpyImm 0x34#8) ∧
    decodeTableWord 16 0x34C1 = some (.cmpIzx 0x34#8) ∧
    decodeTableWord 8 0xC2 = some .illC2 ∧
    decodeTableWord 8 0xC3 = some .illC3 ∧
    decodeTableWord 16 0x34C4 = some (.cpyZp 0x34#8) ∧
    decodeTableWord 16 0x34C5 = some (.cmpZp 0x34#8) ∧
    decodeTableWord 16 0x34C6 = some (.decZp 0x34#8) ∧
    decodeTableWord 16 0x34C7 = some (.smb4 0x34#8) ∧
    decodeTableWord 8 0xC8 = some .iny ∧
    decodeTableWord 16 0x34C9 = some (.cmpImm 0x34#8) ∧
    decodeTableWord 8 0xCA = some .dex ∧
    decodeTableWord 8 0xCB = some .wai ∧
    decodeTableWord 24 0x1234CC = some (.cpyAbs 0x1234#16) ∧
    decodeTableWord 24 0x1234CD = some (.cmpAbs 0x1234#16) ∧
    decodeTableWord 24 0x1234CE = some (.decAbs 0x1234#16) ∧
    decodeTableWord 24 0x1234CF = some (.bbs4 0x34#8 0x12#8) := by
  decide

/-- Row Dx of the opcode table: opcode, then the operand bytes 34 and 12, as opcode_table.json numbers the bits. -/
theorem test_decode_row_D :
    decodeTableWord 16 0x34D0 = some (.bne 0x34#8) ∧
    decodeTableWord 16 0x34D1 = some (.cmpIzy 0x34#8) ∧
    decodeTableWord 16 0x34D2 = some (.cmpIzp 0x34#8) ∧
    decodeTableWord 8 0xD3 = some .illD3 ∧
    decodeTableWord 8 0xD4 = some .illD4 ∧
    decodeTableWord 16 0x34D5 = some (.cmpZpx 0x34#8) ∧
    decodeTableWord 16 0x34D6 = some (.decZpx 0x34#8) ∧
    decodeTableWord 16 0x34D7 = some (.smb5 0x34#8) ∧
    decodeTableWord 8 0xD8 = some .cld ∧
    decodeTableWord 24 0x1234D9 = some (.cmpAby 0x1234#16) ∧
    decodeTableWord 8 0xDA = some .phx ∧
    decodeTableWord 8 0xDB = some .stp ∧
    decodeTableWord 8 0xDC = some .illDC ∧
    decodeTableWord 24 0x1234DD = some (.cmpAbx 0x1234#16) ∧
    decodeTableWord 24 0x1234DE = some (.decAbx 0x1234#16) ∧
    decodeTableWord 24 0x1234DF = some (.bbs5 0x34#8 0x12#8) := by
  decide

/-- Row Ex of the opcode table: opcode, then the operand bytes 34 and 12, as opcode_table.json numbers the bits. -/
theorem test_decode_row_E :
    decodeTableWord 16 0x34E0 = some (.cpxImm 0x34#8) ∧
    decodeTableWord 16 0x34E1 = some (.sbcIzx 0x34#8) ∧
    decodeTableWord 8 0xE2 = some .illE2 ∧
    decodeTableWord 8 0xE3 = some .illE3 ∧
    decodeTableWord 16 0x34E4 = some (.cpxZp 0x34#8) ∧
    decodeTableWord 16 0x34E5 = some (.sbcZp 0x34#8) ∧
    decodeTableWord 16 0x34E6 = some (.incZp 0x34#8) ∧
    decodeTableWord 16 0x34E7 = some (.smb6 0x34#8) ∧
    decodeTableWord 8 0xE8 = some .inx ∧
    decodeTableWord 16 0x34E9 = some (.sbcImm 0x34#8) ∧
    decodeTableWord 8 0xEA = some .nop ∧
    decodeTableWord 8 0xEB = some .illEB ∧
    decodeTableWord 24 0x1234EC = some (.cpxAbs 0x1234#16) ∧
    decodeTableWord 24 0x1234ED = some (.sbcAbs 0x1234#16) ∧
    decodeTableWord 24 0x1234EE = some (.incAbs 0x1234#16) ∧
    decodeTableWord 24 0x1234EF = some (.bbs6 0x34#8 0x12#8) := by
  decide

/-- Row Fx of the opcode table: opcode, then the operand bytes 34 and 12, as opcode_table.json numbers the bits. -/
theorem test_decode_row_F :
    decodeTableWord 16 0x34F0 = some (.beq 0x34#8) ∧
    decodeTableWord 16 0x34F1 = some (.sbcIzy 0x34#8) ∧
    decodeTableWord 16 0x34F2 = some (.sbcIzp 0x34#8) ∧
    decodeTableWord 8 0xF3 = some .illF3 ∧
    decodeTableWord 8 0xF4 = some .illF4 ∧
    decodeTableWord 16 0x34F5 = some (.sbcZpx 0x34#8) ∧
    decodeTableWord 16 0x34F6 = some (.incZpx 0x34#8) ∧
    decodeTableWord 16 0x34F7 = some (.smb7 0x34#8) ∧
    decodeTableWord 8 0xF8 = some .sed ∧
    decodeTableWord 24 0x1234F9 = some (.sbcAby 0x1234#16) ∧
    decodeTableWord 8 0xFA = some .plx ∧
    decodeTableWord 8 0xFB = some .illFB ∧
    decodeTableWord 8 0xFC = some .illFC ∧
    decodeTableWord 24 0x1234FD = some (.sbcAbx 0x1234#16) ∧
    decodeTableWord 24 0x1234FE = some (.incAbx 0x1234#16) ∧
    decodeTableWord 24 0x1234FF = some (.bbs7 0x34#8 0x12#8) := by
  decide

/-! ### One step -/

/-- The start state of the vectors (95_test_vectors.md, Conventions). -/
def start : State := { State.reset with pc := 0x0300#16, flags := ⟨false, false, false, false, false, false⟩ }

/-- `s` with the listed bytes in memory. -/
def load (s : State) : List (Word × Byte) → State
  | [] => s
  | (a, v) :: rest => load (s.putByte a v) rest

/-- The state after one step. -/
def after (s : State) : State :=
  match step s with
  | .next t => t
  | .fault _ => s
  | .refused _ => s

/-- 95_test_vectors.md VA.1. -/
theorem test_va_1_lda :
  let t := after (load { start with x := 0x20#8 } [(0x0300#16, 0xB5#8), (0x0301#16, 0xF0#8), (0x0010#16, 0xAB#8), (0x0110#16, 0xCD#8)])
  t.pc = 0x0302#16 ∧ t.a = 0xAB#8 ∧ t.flags = ⟨true, false, false, false, false, false⟩ ∧ t.returned = 4 := by
  decide

/-- 95_test_vectors.md VA.2. -/
theorem test_va_2_ldx :
  let t := after (load { start with y := 0x20#8 } [(0x0300#16, 0xB6#8), (0x0301#16, 0xF0#8), (0x0010#16, 0xAB#8)])
  t.pc = 0x0302#16 ∧ t.x = 0xAB#8 ∧ t.flags = ⟨true, false, false, false, false, false⟩ ∧ t.returned = 4 := by
  decide

/-- 95_test_vectors.md VA.3. -/
theorem test_va_3_stx :
  let t := after (load { start with x := 0x33#8, y := 0x20#8 } [(0x0300#16, 0x96#8), (0x0301#16, 0xF0#8)])
  t.pc = 0x0302#16 ∧ t.byteAt 0x0010#16 = 0x33#8 ∧ t.flags = ⟨false, false, false, false, false, false⟩ ∧ t.returned = 4 := by
  decide

/-- 95_test_vectors.md VA.5. -/
theorem test_va_5_lda :
  let t := after (load { start with x := 0x01#8 } [(0x0300#16, 0xBD#8), (0x0301#16, 0xFF#8), (0x0302#16, 0x12#8), (0x1300#16, 0x77#8)])
  t.pc = 0x0303#16 ∧ t.a = 0x77#8 ∧ t.returned = 5 := by
  decide

/-- 95_test_vectors.md VA.6. -/
theorem test_va_6_lda :
  let t := after (load { start with y := 0x02#8 } [(0x0300#16, 0xB9#8), (0x0301#16, 0xFF#8), (0x0302#16, 0xFF#8), (0x0001#16, 0x5A#8)])
  t.pc = 0x0303#16 ∧ t.a = 0x5A#8 ∧ t.returned = 5 := by
  decide

/-- 95_test_vectors.md VA.7. -/
theorem test_va_7_sta :
  let t := after (load { start with a := 0x00#8, x := 0x01#8 } [(0x0300#16, 0x9D#8), (0x0301#16, 0xFF#8), (0x0302#16, 0x12#8)])
  t.pc = 0x0303#16 ∧ t.byteAt 0x1300#16 = 0x00#8 ∧ t.returned = 6 := by
  decide

/-- 95_test_vectors.md VA.8. -/
theorem test_va_8_stz :
  let t := after (load { start with x := 0x01#8 } [(0x0300#16, 0x9E#8), (0x0301#16, 0x34#8), (0x0302#16, 0x12#8), (0x1235#16, 0xFF#8)])
  t.pc = 0x0303#16 ∧ t.byteAt 0x1235#16 = 0x00#8 ∧ t.returned = 5 := by
  decide

/-- 95_test_vectors.md VA.10. -/
theorem test_va_10_lda :
  let t := after (load { start with x := 0x00#8 } [(0x0300#16, 0xA1#8), (0x0301#16, 0xFF#8), (0x00FF#16, 0x34#8), (0x0000#16, 0x12#8), (0x0100#16, 0x99#8), (0x1234#16, 0x42#8)])
  t.pc = 0x0302#16 ∧ t.a = 0x42#8 ∧ t.flags = ⟨false, false, false, false, false, false⟩ ∧ t.returned = 6 := by
  decide

/-- 95_test_vectors.md VA.13. -/
theorem test_va_13_lda :
  let t := after (load { start with y := 0x10#8 } [(0x0300#16, 0xB1#8), (0x0301#16, 0x40#8), (0x0040#16, 0xF0#8), (0x0041#16, 0x20#8), (0x2100#16, 0x67#8)])
  t.pc = 0x0302#16 ∧ t.a = 0x67#8 ∧ t.returned = 5 := by
  decide

/-- 95_test_vectors.md VA.14. -/
theorem test_va_14_lda :
  let t := after (load { start with y := 0x11#8 } [(0x0300#16, 0xB1#8), (0x0301#16, 0x40#8), (0x0040#16, 0xF0#8), (0x0041#16, 0x20#8), (0x2101#16, 0x68#8)])
  t.pc = 0x0302#16 ∧ t.a = 0x68#8 ∧ t.returned = 6 := by
  decide

/-- 95_test_vectors.md VA.16. -/
theorem test_va_16_sta :
  let t := after (load { start with a := 0x5A#8, y := 0xFF#8 } [(0x0300#16, 0x91#8), (0x0301#16, 0x40#8), (0x0040#16, 0x02#8), (0x0041#16, 0x20#8)])
  t.pc = 0x0302#16 ∧ t.byteAt 0x2101#16 = 0x5A#8 ∧ t.returned = 7 := by
  decide

/-- 95_test_vectors.md VA.17. -/
theorem test_va_17_lda :
  let t := after (load start [(0x0300#16, 0xB2#8), (0x0301#16, 0x40#8), (0x0040#16, 0x00#8), (0x0041#16, 0x20#8), (0x2000#16, 0x80#8)])
  t.pc = 0x0302#16 ∧ t.a = 0x80#8 ∧ t.flags = ⟨true, false, false, false, false, false⟩ ∧ t.returned = 5 := by
  decide

/-- 95_test_vectors.md VA.20. -/
theorem test_va_20_jmp :
  let t := after (load start [(0x0300#16, 0x6C#8), (0x0301#16, 0xFF#8), (0x0302#16, 0x01#8), (0x01FF#16, 0x34#8), (0x0200#16, 0x56#8), (0x0100#16, 0x12#8)])
  t.pc = 0x1234#16 ∧ t.returned = 6 := by
  decide

/-- 95_test_vectors.md VA.22. -/
theorem test_va_22_jmp :
  let t := after (load { start with x := 0x00#8 } [(0x0300#16, 0x7C#8), (0x0301#16, 0xFF#8), (0x0302#16, 0x20#8), (0x20FF#16, 0x78#8), (0x2100#16, 0x56#8)])
  t.pc = 0x5678#16 ∧ t.returned = 6 := by
  decide

/-- 95_test_vectors.md VA.24. -/
theorem test_va_24_nop :
  let t := after (load { start with pc := 0xFFFF#16 } [(0xFFFF#16, 0xEA#8)])
  t.pc = 0x0000#16 ∧ t.returned = 2 := by
  decide

/-- 95_test_vectors.md V1.1. -/
theorem test_v1_1_lda :
  let t := after (load { start with a := 0x55#8, flags := ⟨true, false, false, false, false, false⟩ } [(0x0300#16, 0xA9#8), (0x0301#16, 0x00#8)])
  t.pc = 0x0302#16 ∧ t.a = 0x00#8 ∧ t.flags = ⟨false, false, false, false, true, false⟩ ∧ t.returned = 2 := by
  decide

/-- 95_test_vectors.md V1.3. -/
theorem test_v1_3_ldy :
  let t := after (load start [(0x0300#16, 0xAC#8), (0x0301#16, 0x34#8), (0x0302#16, 0x12#8), (0x1234#16, 0x7F#8)])
  t.pc = 0x0303#16 ∧ t.y = 0x7F#8 ∧ t.flags = ⟨false, false, false, false, false, false⟩ ∧ t.returned = 4 := by
  decide

/-- 95_test_vectors.md V1.4. -/
theorem test_v1_4_sta :
  let t := after (load { start with a := 0x80#8, flags := ⟨false, false, false, false, true, false⟩ } [(0x0300#16, 0x85#8), (0x0301#16, 0x10#8)])
  t.pc = 0x0302#16 ∧ t.byteAt 0x0010#16 = 0x80#8 ∧ t.flags = ⟨false, false, false, false, true, false⟩ ∧ t.returned = 3 := by
  decide

/-- 95_test_vectors.md V1.5. -/
theorem test_v1_5_sty :
  let t := after (load { start with y := 0x44#8 } [(0x0300#16, 0x8C#8), (0x0301#16, 0x34#8), (0x0302#16, 0x12#8)])
  t.pc = 0x0303#16 ∧ t.byteAt 0x1234#16 = 0x44#8 ∧ t.returned = 4 := by
  decide

/-- 95_test_vectors.md V1.6. -/
theorem test_v1_6_tax :
  let t := after (load { start with a := 0x00#8, x := 0x05#8 } [(0x0300#16, 0xAA#8)])
  t.pc = 0x0301#16 ∧ t.x = 0x00#8 ∧ t.flags = ⟨false, false, false, false, true, false⟩ ∧ t.returned = 2 := by
  decide

/-- 95_test_vectors.md V1.7. -/
theorem test_v1_7_tay :
  let t := after (load { start with a := 0x80#8 } [(0x0300#16, 0xA8#8)])
  t.pc = 0x0301#16 ∧ t.y = 0x80#8 ∧ t.flags = ⟨true, false, false, false, false, false⟩ ∧ t.returned = 2 := by
  decide

/-- 95_test_vectors.md V1.8. -/
theorem test_v1_8_txa :
  let t := after (load { start with x := 0x7F#8 } [(0x0300#16, 0x8A#8)])
  t.pc = 0x0301#16 ∧ t.a = 0x7F#8 ∧ t.flags = ⟨false, false, false, false, false, false⟩ ∧ t.returned = 2 := by
  decide

/-- 95_test_vectors.md V1.9. -/
theorem test_v1_9_tya :
  let t := after (load { start with y := 0xFF#8 } [(0x0300#16, 0x98#8)])
  t.pc = 0x0301#16 ∧ t.a = 0xFF#8 ∧ t.flags = ⟨true, false, false, false, false, false⟩ ∧ t.returned = 2 := by
  decide

/-- 95_test_vectors.md V1.10. -/
theorem test_v1_10_tsx :
  let t := after (load { start with sp := 0xFD#8 } [(0x0300#16, 0xBA#8)])
  t.pc = 0x0301#16 ∧ t.x = 0xFD#8 ∧ t.flags = ⟨true, false, false, false, false, false⟩ ∧ t.returned = 2 := by
  decide

/-- 95_test_vectors.md V1.11. -/
theorem test_v1_11_txs :
  let t := after (load { start with x := 0x00#8, flags := ⟨true, false, false, false, false, false⟩ } [(0x0300#16, 0x9A#8)])
  t.pc = 0x0301#16 ∧ t.sp = 0x00#8 ∧ t.flags = ⟨true, false, false, false, false, false⟩ ∧ t.returned = 2 := by
  decide

/-- 95_test_vectors.md V2.4. -/
theorem test_v2_4_adc :
  let t := after (load { start with a := 0x80#8 } [(0x0300#16, 0x69#8), (0x0301#16, 0x80#8)])
  t.pc = 0x0302#16 ∧ t.a = 0x00#8 ∧ t.flags = ⟨false, true, false, false, true, true⟩ ∧ t.returned = 2 := by
  decide

/-- 95_test_vectors.md V2.6. -/
theorem test_v2_6_adc :
  let t := after (load { start with a := 0x79#8, flags := ⟨false, false, true, false, false, true⟩ } [(0x0300#16, 0x69#8), (0x0301#16, 0x01#8)])
  t.pc = 0x0302#16 ∧ t.a = 0x81#8 ∧ t.flags = ⟨true, true, true, false, false, false⟩ ∧ t.returned = 2 := by
  decide

/-- 95_test_vectors.md V2.16. -/
theorem test_v2_16_sbc :
  let t := after (load { start with a := 0x50#8, flags := ⟨false, false, false, false, false, true⟩ } [(0x0300#16, 0xE9#8), (0x0301#16, 0xB0#8)])
  t.pc = 0x0302#16 ∧ t.a = 0xA0#8 ∧ t.flags = ⟨true, true, false, false, false, false⟩ ∧ t.returned = 2 := by
  decide

/-- 95_test_vectors.md V2.30. -/
theorem test_v2_30_sbc :
  let t := after (load { start with a := 0x00#8, flags := ⟨false, false, true, false, false, false⟩ } [(0x0300#16, 0xE9#8), (0x0301#16, 0x01#8)])
  t.pc = 0x0302#16 ∧ t.a = 0x98#8 ∧ t.flags = ⟨true, false, true, false, false, false⟩ ∧ t.returned = 2 := by
  decide

/-- 95_test_vectors.md V2.38. -/
theorem test_v2_38_inc :
  let t := after (load start [(0x0300#16, 0xE6#8), (0x0301#16, 0x10#8), (0x0010#16, 0xFF#8)])
  t.pc = 0x0302#16 ∧ t.byteAt 0x0010#16 = 0x00#8 ∧ t.flags = ⟨false, false, false, false, true, false⟩ ∧ t.returned = 5 := by
  decide

/-- 95_test_vectors.md V2.39. -/
theorem test_v2_39_dec :
  let t := after (load start [(0x0300#16, 0xC6#8), (0x0301#16, 0x10#8), (0x0010#16, 0x00#8)])
  t.pc = 0x0302#16 ∧ t.byteAt 0x0010#16 = 0xFF#8 ∧ t.flags = ⟨true, false, false, false, false, false⟩ ∧ t.returned = 5 := by
  decide

/-- 95_test_vectors.md V2.41. -/
theorem test_v2_41_inx :
  let t := after (load { start with x := 0xFF#8 } [(0x0300#16, 0xE8#8)])
  t.pc = 0x0301#16 ∧ t.x = 0x00#8 ∧ t.flags = ⟨false, false, false, false, true, false⟩ ∧ t.returned = 2 := by
  decide

/-- 95_test_vectors.md V2.42. -/
theorem test_v2_42_dey :
  let t := after (load { start with y := 0x00#8 } [(0x0300#16, 0x88#8)])
  t.pc = 0x0301#16 ∧ t.y = 0xFF#8 ∧ t.flags = ⟨true, false, false, false, false, false⟩ ∧ t.returned = 2 := by
  decide

/-- 95_test_vectors.md V3.1. -/
theorem test_v3_1_and :
  let t := after (load { start with a := 0xF0#8 } [(0x0300#16, 0x29#8), (0x0301#16, 0x0F#8)])
  t.pc = 0x0302#16 ∧ t.a = 0x00#8 ∧ t.flags = ⟨false, false, false, false, true, false⟩ ∧ t.returned = 2 := by
  decide

/-- 95_test_vectors.md V3.3. -/
theorem test_v3_3_ora :
  let t := after (load { start with a := 0x01#8 } [(0x0300#16, 0x09#8), (0x0301#16, 0x80#8)])
  t.pc = 0x0302#16 ∧ t.a = 0x81#8 ∧ t.flags = ⟨true, false, false, false, false, false⟩ ∧ t.returned = 2 := by
  decide

/-- 95_test_vectors.md V3.6. -/
theorem test_v3_6_eor :
  let t := after (load { start with a := 0x0F#8 } [(0x0300#16, 0x49#8), (0x0301#16, 0xFF#8)])
  t.pc = 0x0302#16 ∧ t.a = 0xF0#8 ∧ t.flags = ⟨true, false, false, false, false, false⟩ ∧ t.returned = 2 := by
  decide

/-- 95_test_vectors.md V3.7. -/
theorem test_v3_7_bit :
  let t := after (load { start with a := 0x01#8 } [(0x0300#16, 0x24#8), (0x0301#16, 0x10#8), (0x0010#16, 0xC0#8)])
  t.pc = 0x0302#16 ∧ t.a = 0x01#8 ∧ t.flags = ⟨true, true, false, false, true, false⟩ ∧ t.returned = 3 := by
  decide

/-- 95_test_vectors.md V3.10. -/
theorem test_v3_10_bit :
  let t := after (load { start with a := 0x0F#8, flags := ⟨false, true, false, false, false, false⟩ } [(0x0300#16, 0x89#8), (0x0301#16, 0xF0#8)])
  t.pc = 0x0302#16 ∧ t.flags = ⟨true, true, false, false, true, false⟩ ∧ t.returned = 2 := by
  decide

/-- 95_test_vectors.md V3.11. -/
theorem test_v3_11_asl :
  let t := after (load { start with a := 0x80#8 } [(0x0300#16, 0x0A#8)])
  t.pc = 0x0301#16 ∧ t.a = 0x00#8 ∧ t.flags = ⟨false, false, false, false, true, true⟩ ∧ t.returned = 2 := by
  decide

/-- 95_test_vectors.md V3.13. -/
theorem test_v3_13_lsr :
  let t := after (load { start with a := 0x01#8 } [(0x0300#16, 0x4A#8)])
  t.pc = 0x0301#16 ∧ t.a = 0x00#8 ∧ t.flags = ⟨false, false, false, false, true, true⟩ ∧ t.returned = 2 := by
  decide

/-- 95_test_vectors.md V3.15. -/
theorem test_v3_15_rol :
  let t := after (load { start with a := 0x80#8, flags := ⟨false, false, false, false, false, true⟩ } [(0x0300#16, 0x2A#8)])
  t.pc = 0x0301#16 ∧ t.a = 0x01#8 ∧ t.flags = ⟨false, false, false, false, false, true⟩ ∧ t.returned = 2 := by
  decide

/-- 95_test_vectors.md V3.19. -/
theorem test_v3_19_rol :
  let t := after (load { start with flags := ⟨false, false, false, false, false, true⟩ } [(0x0300#16, 0x26#8), (0x0301#16, 0x10#8), (0x0010#16, 0x55#8)])
  t.pc = 0x0302#16 ∧ t.byteAt 0x0010#16 = 0xAB#8 ∧ t.flags = ⟨true, false, false, false, false, false⟩ ∧ t.returned = 5 := by
  decide

/-- 95_test_vectors.md V3.17. -/
theorem test_v3_17_ror :
  let t := after (load { start with a := 0x01#8, flags := ⟨false, false, false, false, false, true⟩ } [(0x0300#16, 0x6A#8)])
  t.pc = 0x0301#16 ∧ t.a = 0x80#8 ∧ t.flags = ⟨true, false, false, false, false, true⟩ ∧ t.returned = 2 := by
  decide

/-- 95_test_vectors.md V3.21. -/
theorem test_v3_21_ror :
  let t := after (load { start with x := 0x10#8 } [(0x0300#16, 0x7E#8), (0x0301#16, 0xF0#8), (0x0302#16, 0x12#8), (0x1300#16, 0x01#8)])
  t.pc = 0x0303#16 ∧ t.byteAt 0x1300#16 = 0x00#8 ∧ t.flags = ⟨false, false, false, false, true, true⟩ ∧ t.returned = 7 := by
  decide

/-- 95_test_vectors.md V3.22. -/
theorem test_v3_22_tsb :
  let t := after (load { start with a := 0x0F#8 } [(0x0300#16, 0x04#8), (0x0301#16, 0x10#8), (0x0010#16, 0xF0#8)])
  t.pc = 0x0302#16 ∧ t.byteAt 0x0010#16 = 0xFF#8 ∧ t.flags = ⟨false, false, false, false, true, false⟩ ∧ t.returned = 5 := by
  decide

/-- 95_test_vectors.md V3.24. -/
theorem test_v3_24_trb :
  let t := after (load { start with a := 0x0F#8 } [(0x0300#16, 0x14#8), (0x0301#16, 0x10#8), (0x0010#16, 0xFF#8)])
  t.pc = 0x0302#16 ∧ t.byteAt 0x0010#16 = 0xF0#8 ∧ t.flags = ⟨false, false, false, false, false, false⟩ ∧ t.returned = 5 := by
  decide

/-- 95_test_vectors.md V3.26. -/
theorem test_v3_26_rmb7 :
  let t := after (load { start with flags := ⟨true, false, false, false, false, false⟩ } [(0x0300#16, 0x77#8), (0x0301#16, 0x10#8), (0x0010#16, 0xFF#8)])
  t.pc = 0x0302#16 ∧ t.byteAt 0x0010#16 = 0x7F#8 ∧ t.flags = ⟨true, false, false, false, false, false⟩ ∧ t.returned = 5 := by
  decide

/-- 95_test_vectors.md V3.27. -/
theorem test_v3_27_smb7 :
  let t := after (load start [(0x0300#16, 0xF7#8), (0x0301#16, 0x10#8), (0x0010#16, 0x00#8)])
  t.pc = 0x0302#16 ∧ t.byteAt 0x0010#16 = 0x80#8 ∧ t.flags = ⟨false, false, false, false, false, false⟩ ∧ t.returned = 5 := by
  decide

/-- 95_test_vectors.md V4.1. -/
theorem test_v4_1_beq :
  let t := after (load start [(0x0300#16, 0xF0#8), (0x0301#16, 0x05#8)])
  t.pc = 0x0302#16 ∧ t.returned = 2 := by
  decide

/-- 95_test_vectors.md V4.2. -/
theorem test_v4_2_bne :
  let t := after (load start [(0x0300#16, 0xD0#8), (0x0301#16, 0x05#8)])
  t.pc = 0x0307#16 ∧ t.returned = 3 := by
  decide

/-- 95_test_vectors.md V4.6. -/
theorem test_v4_6_bra :
  let t := after (load start [(0x0300#16, 0x80#8), (0x0301#16, 0x80#8)])
  t.pc = 0x0282#16 ∧ t.returned = 4 := by
  decide

/-- 95_test_vectors.md V4.9. -/
theorem test_v4_9_beq :
  let t := after (load { start with pc := 0xFFFC#16, flags := ⟨false, false, false, false, true, false⟩ } [(0xFFFC#16, 0xF0#8), (0xFFFD#16, 0x05#8)])
  t.pc = 0x0003#16 ∧ t.returned = 4 := by
  decide

/-- 95_test_vectors.md V4.11. -/
theorem test_v4_11_bbr0 :
  let t := after (load start [(0x0300#16, 0x0F#8), (0x0301#16, 0x10#8), (0x0302#16, 0x02#8), (0x0010#16, 0x00#8)])
  t.pc = 0x0305#16 ∧ t.returned = 6 := by
  decide

/-- 95_test_vectors.md V4.13. -/
theorem test_v4_13_bbs7 :
  let t := after (load start [(0x0300#16, 0xFF#8), (0x0301#16, 0x10#8), (0x0302#16, 0xFD#8), (0x0010#16, 0x80#8)])
  t.pc = 0x0300#16 ∧ t.returned = 6 := by
  decide

/-- 95_test_vectors.md V4.15. -/
theorem test_v4_15_bbr3 :
  let t := after (load start [(0x0300#16, 0x3F#8), (0x0301#16, 0x10#8), (0x0302#16, 0x80#8), (0x0010#16, 0xF7#8)])
  t.pc = 0x0283#16 ∧ t.returned = 7 := by
  decide

/-- 95_test_vectors.md V4.16. -/
theorem test_v4_16_jmp :
  let t := after (load start [(0x0300#16, 0x4C#8), (0x0301#16, 0x34#8), (0x0302#16, 0x12#8)])
  t.pc = 0x1234#16 ∧ t.returned = 3 := by
  decide

/-- 95_test_vectors.md V4.17. -/
theorem test_v4_17_jsr :
  let t := after (load { start with sp := 0xFD#8 } [(0x0300#16, 0x20#8), (0x0301#16, 0x00#8), (0x0302#16, 0x04#8)])
  t.pc = 0x0400#16 ∧ t.sp = 0xFB#8 ∧ t.byteAt 0x01FD#16 = 0x03#8 ∧ t.byteAt 0x01FC#16 = 0x02#8 ∧ t.returned = 6 := by
  decide

/-- 95_test_vectors.md V4.20. -/
theorem test_v4_20_rts :
  let t := after (load { start with sp := 0xFF#8 } [(0x0300#16, 0x60#8), (0x0100#16, 0x34#8), (0x0101#16, 0x12#8)])
  t.pc = 0x1235#16 ∧ t.sp = 0x01#8 ∧ t.returned = 6 := by
  decide

/-- 95_test_vectors.md V4.21. -/
theorem test_v4_21_rts :
  let t := after (load { start with sp := 0xFD#8 } [(0x0300#16, 0x60#8), (0x01FE#16, 0xFF#8), (0x01FF#16, 0xFF#8)])
  t.pc = 0x0000#16 ∧ t.sp = 0xFF#8 ∧ t.returned = 6 := by
  decide

/-- 95_test_vectors.md V5.1. -/
theorem test_v5_1_php :
  let t := after (load { start with flags := ⟨true, true, true, true, true, true⟩ } [(0x0300#16, 0x08#8)])
  t.pc = 0x0301#16 ∧ t.sp = 0xFC#8 ∧ t.byteAt 0x01FD#16 = 0xFF#8 ∧ t.returned = 3 := by
  decide

/-- 95_test_vectors.md V5.4. -/
theorem test_v5_4_plp :
  let t := after (load { start with sp := 0xFD#8, flags := ⟨true, true, true, true, true, true⟩ } [(0x0300#16, 0x28#8), (0x01FE#16, 0x00#8)])
  t.pc = 0x0301#16 ∧ t.sp = 0xFE#8 ∧ t.flags = ⟨false, false, false, false, false, false⟩ ∧ t.returned = 4 := by
  decide

/-- 95_test_vectors.md V5.7. -/
theorem test_v5_7_plp :
  let t := after (load start [(0x0300#16, 0x28#8), (0x01FE#16, 0xC3#8)])
  t.pc = 0x0301#16 ∧ t.flags = ⟨true, true, false, false, true, true⟩ ∧ t.returned = 4 := by
  decide

/-- 95_test_vectors.md V5.9. -/
theorem test_v5_9_pha :
  let t := after (load { start with a := 0xAA#8, sp := 0x00#8 } [(0x0300#16, 0x48#8)])
  t.pc = 0x0301#16 ∧ t.sp = 0xFF#8 ∧ t.byteAt 0x0100#16 = 0xAA#8 ∧ t.returned = 3 := by
  decide

/-- 95_test_vectors.md V5.10. -/
theorem test_v5_10_pla :
  let t := after (load { start with sp := 0xFF#8 } [(0x0300#16, 0x68#8), (0x0100#16, 0xBB#8)])
  t.pc = 0x0301#16 ∧ t.a = 0xBB#8 ∧ t.sp = 0x00#8 ∧ t.flags = ⟨true, false, false, false, false, false⟩ ∧ t.returned = 4 := by
  decide

/-- 95_test_vectors.md V5.12. -/
theorem test_v5_12_plx :
  let t := after (load { start with x := 0x05#8 } [(0x0300#16, 0xFA#8), (0x01FE#16, 0x00#8)])
  t.pc = 0x0301#16 ∧ t.x = 0x00#8 ∧ t.sp = 0xFE#8 ∧ t.flags = ⟨false, false, false, false, true, false⟩ ∧ t.returned = 4 := by
  decide

/-- 95_test_vectors.md V5.13. -/
theorem test_v5_13_ply :
  let t := after (load start [(0x0300#16, 0x7A#8), (0x01FE#16, 0x80#8)])
  t.pc = 0x0301#16 ∧ t.y = 0x80#8 ∧ t.sp = 0xFE#8 ∧ t.flags = ⟨true, false, false, false, false, false⟩ ∧ t.returned = 4 := by
  decide

/-- 95_test_vectors.md V5.14. -/
theorem test_v5_14_clv :
  let t := after (load { start with flags := ⟨false, true, false, false, false, false⟩ } [(0x0300#16, 0xB8#8)])
  t.pc = 0x0301#16 ∧ t.flags = ⟨false, false, false, false, false, false⟩ ∧ t.returned = 2 := by
  decide

/-- 95_test_vectors.md V5.15. -/
theorem test_v5_15_sed :
  let t := after (load start [(0x0300#16, 0xF8#8)])
  t.pc = 0x0301#16 ∧ t.flags = ⟨false, false, true, false, false, false⟩ ∧ t.returned = 2 := by
  decide

/-- 95_test_vectors.md V5.18. -/
theorem test_v5_18_brk :
  let t := after (load { start with sp := 0xFD#8 } [(0x0300#16, 0x00#8), (0xFFFE#16, 0x00#8), (0xFFFF#16, 0x05#8)])
  t.pc = 0x0500#16 ∧ t.sp = 0xFA#8 ∧ t.byteAt 0x01FD#16 = 0x03#8 ∧ t.byteAt 0x01FC#16 = 0x02#8 ∧ t.byteAt 0x01FB#16 = 0x30#8 ∧ t.flags = ⟨false, false, false, true, false, false⟩ ∧ t.returned = 7 := by
  decide

/-- 95_test_vectors.md V5.19. -/
theorem test_v5_19_brk :
  let t := after (load { start with sp := 0x01#8, flags := ⟨true, false, true, false, false, true⟩ } [(0x0300#16, 0x00#8), (0xFFFE#16, 0x00#8), (0xFFFF#16, 0x06#8)])
  t.pc = 0x0600#16 ∧ t.sp = 0xFE#8 ∧ t.byteAt 0x0101#16 = 0x03#8 ∧ t.byteAt 0x0100#16 = 0x02#8 ∧ t.byteAt 0x01FF#16 = 0xB9#8 ∧ t.flags = ⟨true, false, false, true, false, true⟩ ∧ t.returned = 7 := by
  decide

/-- 95_test_vectors.md V5.22. -/
theorem test_v5_22_rti :
  let t := after (load { start with sp := 0xFF#8 } [(0x0300#16, 0x40#8), (0x0100#16, 0xC1#8), (0x0101#16, 0x34#8), (0x0102#16, 0x12#8)])
  t.pc = 0x1234#16 ∧ t.sp = 0x02#8 ∧ t.flags = ⟨true, true, false, false, false, true⟩ ∧ t.returned = 6 := by
  decide

/-- 95_test_vectors.md V5.23. -/
theorem test_v5_23_ill :
  let t := after (load start [(0x0300#16, 0x02#8)])
  t.pc = 0x0301#16 ∧ t.returned = 0 := by
  decide

/-- 95_test_vectors.md V2.34. -/
theorem test_v2_34_cmp :
  let t := after (load { start with a := 0x00#8 } [(0x0300#16, 0xC9#8), (0x0301#16, 0x80#8)])
  t.a = 0x00#8 ∧ t.flags = ⟨true, false, false, false, false, false⟩ := by
  decide

/-- 95_test_vectors.md V2.33. -/
theorem test_v2_33_cmp :
  let t := after (load { start with a := 0x80#8 } [(0x0300#16, 0xC9#8), (0x0301#16, 0x00#8)])
  t.a = 0x80#8 ∧ t.flags = ⟨true, false, false, false, false, true⟩ := by
  decide

/-- 95_test_vectors.md V2.37. -/
theorem test_v2_37_cpx :
  let t := after (load { start with x := 0x10#8, flags := ⟨false, false, true, false, false, false⟩ } [(0x0300#16, 0xE0#8), (0x0301#16, 0x09#8)])
  t.x = 0x10#8 ∧ t.flags = ⟨false, false, true, false, false, true⟩ := by
  decide

/-- 95_test_vectors.md V4.3. -/
theorem test_v4_3_bcc_bcs :
  let s : State := { start with flags := ⟨false, false, false, false, false, true⟩ }
  (after (load s [(0x0300#16, 0x90#8), (0x0301#16, 0x05#8)])).pc = 0x0302#16 ∧ (after (load s [(0x0300#16, 0xB0#8), (0x0301#16, 0x05#8)])).pc = 0x0307#16 := by
  decide

/-- 95_test_vectors.md V4.4. -/
theorem test_v4_4_bmi_bpl :
  let s : State := { start with flags := ⟨true, false, false, false, false, false⟩ }
  (after (load s [(0x0300#16, 0x30#8), (0x0301#16, 0xFB#8)])).pc = 0x02FD#16 ∧ (after (load s [(0x0300#16, 0x30#8), (0x0301#16, 0xFB#8)])).returned = 4 ∧
    (after (load s [(0x0300#16, 0x10#8), (0x0301#16, 0xFB#8)])).pc = 0x0302#16 := by
  decide

/-- 95_test_vectors.md V4.5. -/
theorem test_v4_5_bvc_bvs :
  (after (load start [(0x0300#16, 0x50#8), (0x0301#16, 0x7F#8)])).pc = 0x0381#16 ∧ (after (load start [(0x0300#16, 0x70#8), (0x0301#16, 0x7F#8)])).pc = 0x0302#16 := by
  decide

/-- 95_test_vectors.md V5.11. -/
theorem test_v5_11_phx_phy :
  let s : State := { start with x := 0x12#8, y := 0x34#8 }
  (after (load s [(0x0300#16, 0xDA#8)])).byteAt 0x01FD#16 = 0x12#8 ∧ (after (load s [(0x0300#16, 0x5A#8)])).byteAt 0x01FD#16 = 0x34#8 ∧
    (after (load s [(0x0300#16, 0x5A#8)])).sp = 0xFC#8 := by
  decide

/-- 95_test_vectors.md V5.24. -/
theorem test_v5_24_stp :
  let t := after (load start [(0x0300#16, 0xDB#8)])
  t.stopped = true ∧ t.pc = 0x0301#16 ∧ t.returned = 3 ∧ (after t).pc = 0x0301#16 ∧ (after t).returned = 0 := by
  decide

/-- 95_test_vectors.md V5.25. -/
theorem test_v5_25_wai :
  let t := after (load start [(0x0300#16, 0xCB#8)])
  t.waiting = true ∧ t.pc = 0x0301#16 ∧ (after t).waiting = true ∧ (after t).pc = 0x0301#16 := by
  decide

/-- 95_test_vectors.md V5.25, step 3. -/
theorem test_v5_25_wai_irq :
  let t := after (raiseMaskableInterrupt 7 (load { start with pc := 0x0301#16, waiting := true } [(0xFFFF#16, 0x04#8)]))
  t.pc = 0x0400#16 ∧ t.sp = 0xFA#8 ∧ t.flags.i = true ∧ t.waiting = false ∧ t.byteAt 0x01FD#16 = 0x03#8 ∧
    t.byteAt 0x01FC#16 = 0x01#8 ∧ t.byteAt 0x01FB#16 = 0x20#8 ∧ t.returned = 7 := by
  decide

/-- 95_test_vectors.md V5.26, step 1. -/
theorem test_v5_26_wai_masked :
  let t := after (raiseMaskableInterrupt 0 (load { start with flags := ⟨false, false, false, true, false, false⟩ } [(0x0300#16, 0xCB#8), (0x0301#16, 0xEA#8)]))
  t.waiting = false ∧ t.pc = 0x0301#16 ∧ t.sp = 0xFD#8 ∧ t.returned = 3 := by
  decide

/-- 95_test_vectors.md S9. -/
theorem test_s9_irq :
  let t := after (raiseMaskableInterrupt 3 (load { start with flags := ⟨false, false, false, false, true, true⟩ } [(0x0300#16, 0xEA#8), (0xFFFF#16, 0x04#8)]))
  t.pc = 0x0400#16 ∧ t.sp = 0xFA#8 ∧ t.flags = ⟨false, false, false, true, true, true⟩ ∧ t.byteAt 0x01FD#16 = 0x03#8 ∧
    t.byteAt 0x01FC#16 = 0x01#8 ∧ t.byteAt 0x01FB#16 = 0x23#8 ∧ t.returned = 9 ∧ t.pending = [3] := by
  decide

/-- 95_test_vectors.md V6.2, step 2. -/
theorem test_v6_2_cli :
  let t := after (raiseMaskableInterrupt 0 (load { start with pc := 0x0301#16, flags := ⟨false, false, false, true, false, false⟩ } [(0x0301#16, 0x58#8), (0xFFFF#16, 0x04#8)]))
  t.pc = 0x0400#16 ∧ t.flags = ⟨false, false, false, true, false, false⟩ ∧ t.byteAt 0x01FC#16 = 0x02#8 ∧ t.byteAt 0x01FB#16 = 0x20#8 ∧ t.returned = 9 := by
  decide

/-- 95_test_vectors.md V6.3. -/
theorem test_v6_3_sei :
  let t := after (raiseMaskableInterrupt 0 (load start [(0x0300#16, 0x78#8)]))
  t.pc = 0x0301#16 ∧ t.sp = 0xFD#8 ∧ t.flags = ⟨false, false, false, true, false, false⟩ ∧ t.returned = 2 := by
  decide

/-- 95_test_vectors.md S3. -/
theorem test_s3_flags_byte :
  flagsOfByte 0xCB#8 = ⟨true, true, true, false, true, true⟩ ∧ flagsByte (flagsOfByte 0xCB#8) false = 0xEB#8 ∧
    flagsByte (flagsOfByte 0x81#8) true = 0xB1#8 ∧ flagsByte (flagsOfByte 0x30#8) false = 0x20#8 := by
  decide

/-! ### Witnesses: what meets the hypotheses of each statement that has some -/

/-- `start` with a device's hook at D010 and a read-only region at FF00 and FF01. -/
def hooked : State := { start with intercepts := [(0xD010, .oracle 1), (0xFF00, .rom), (0xFF01, .rom)] }

/-- `start` with the byte 41 at 0010 and a pointer to 2001 at 0040. -/
def filled : State := load start [(0x0010#16, 0x41#8), (0x0040#16, 0x01#8), (0x0041#16, 0x20#8)]

theorem witness_EncodeOfDecodeIsTheBytes :
    decode [0x8D#8, 0x00#8, 0x02#8, 0xEA#8] = .ok (.staAbs 0x0200#16, [0xEA#8]) ∧
      decode [0x0F#8, 0x10#8, 0x02#8] = .ok (.bbr0 0x10#8 0x02#8, []) := ⟨rfl, rfl⟩

/-- A program in a read-only region (JMP) and one across the end of memory (LDA). -/
theorem witness_StepRunsDecodedInstruction :
    (let s : State := load { hooked with pc := 0xFEFF#16 } [(0xFEFF#16, 0x4C#8), (0xFF00#16, 0x34#8), (0xFF01#16, 0x12#8)]
     let bytes := [s.byteAt s.pc, s.byteAt (s.pc + 1#16), s.byteAt (s.pc + 2#16)]
     s.stopped = false ∧ s.waiting = false ∧ decode bytes = .ok (.jmpAbs 0x1234#16, []) ∧
       ∀ k : Nat, k < (encode (.jmpAbs 0x1234#16)).length →
         s.hookAt (s.pc + BitVec.ofNat 16 k) = none ∨ s.hookAt (s.pc + BitVec.ofNat 16 k) = some .rom) ∧
    (let s : State := load { start with pc := 0xFFFF#16 } [(0xFFFF#16, 0xA9#8), (0x0000#16, 0x41#8)]
     let bytes := [s.byteAt s.pc, s.byteAt (s.pc + 1#16), s.byteAt (s.pc + 2#16)]
     s.stopped = false ∧ s.waiting = false ∧ decode bytes = .ok (.ldaImm 0x41#8, [0x00#8]) ∧
       ∀ k : Nat, k < (encode (.ldaImm 0x41#8)).length →
         s.hookAt (s.pc + BitVec.ofNat 16 k) = none ∨ s.hookAt (s.pc + BitVec.ofNat 16 k) = some .rom) :=
  ⟨⟨rfl, rfl, rfl, by decide⟩, ⟨rfl, rfl, rfl, by decide⟩⟩

theorem witness_StoppedAndWaitingSteps :
    (start.setStopped true).stopped = true ∧ (start.setWaiting true).stopped = false ∧
      (start.setWaiting true).waiting = true := by decide

theorem witness_OnlyStpStopsAndOnlyWaiWaits :
    (let s := load start [(0x0300#16, 0xDB#8)]
     s.stopped = false ∧ step s = .next (after s) ∧ (after s).stopped = true) ∧
    (let s := load start [(0x0300#16, 0xCB#8)]
     s.stopped = false ∧ step s = .next (after s) ∧ (after s).waiting = true) ∧
    ((start.setStopped true).stopped = true ∧
      (hostCall .resetCpu (start.setStopped true)).stopped = false) :=
  ⟨⟨rfl, rfl, by decide⟩, ⟨rfl, rfl, by decide⟩, by decide⟩

theorem witness_StepKeepsInvariant :
    Memory.wf filled.mem = true ∧ interceptsWf hooked.intercepts = true ∧ pendingWf [3, 7] = true ∧
      ({ filled with pending := [3, 7] } : State).Inv ∧
      step { filled with pending := [3, 7] } = .next (after { filled with pending := [3, 7] }) :=
  ⟨by decide, by decide, by decide, ⟨by decide, by decide, by decide, by decide⟩, rfl⟩

theorem witness_ReachableStatesMeetInvariant :
    filled.Inv ∧ Reaches filled (hostCall .nonMaskableInterrupt (after filled)) :=
  ⟨⟨by decide, by decide, by decide, by decide⟩,
    .more _ _ (.more _ _ .here (.byStep _ rfl)) (.byHost .nonMaskableInterrupt)⟩

/-- A store at a read-only address. -/
theorem witness_RomAndHostStateNeverChange :
    let s := load { hooked with a := 0x55#8 } [(0x0300#16, 0x8D#8), (0x0302#16, 0xFF#8)]
    step s = .next (after s) ∧ s.hookAt 0xFF00#16 = some .rom :=
  ⟨rfl, by decide⟩

/-- Each flag is changed by one of its writers. -/
theorem witness_FlagsChangeOnlyByTheirWriters :
    (exec (.ldaImm 0x80#8) start = .next { start with pc := 0x0301#16, a := 0x80#8, flags := ⟨true, false, false, false, false, false⟩ }) ∧
    (exec (.ldaImm 0x00#8) start = .next { start with pc := 0x0301#16, flags := ⟨false, false, false, false, true, false⟩ }) ∧
    (exec .sec start = .next { start with flags := ⟨false, false, false, false, false, true⟩ }) ∧
    (exec .sed start = .next { start with flags := ⟨false, false, true, false, false, false⟩ }) ∧
    (exec .sei start = .next { start with flags := ⟨false, false, false, true, false, false⟩ }) ∧
    (exec (.bitZp 0x10#8) filled = .next { filled with pc := 0x0301#16, flags := ⟨false, true, false, false, true, false⟩ }) :=
  ⟨rfl, rfl, rfl, rfl, rfl, rfl⟩

/-- Each register and control bit is changed by one of its writers. -/
theorem witness_RegistersChangeOnlyByTheirWriters :
    exec (.ldaImm 0x01#8) start = .next { start with pc := 0x0301#16, a := 0x01#8 } ∧
    exec .incAcc start = .next { start with a := 0x01#8 } ∧
    exec .inx start = .next { start with x := 0x01#8 } ∧ exec .iny start = .next { start with y := 0x01#8 } ∧
    exec .txs start = .next { start with sp := 0x00#8 } ∧
    exec (.jmpAbs 0x1234#16) start = .next { start with pc := 0x1234#16 } ∧
    exec .stp start = .next { start with stopped := true } ∧
    exec .wai start = .next { start with waiting := true } :=
  ⟨rfl, rfl, rfl, rfl, rfl, rfl, rfl, rfl⟩

/-- A byte that differs, for a store, a push, JSR and BRK. -/
theorem witness_MemoryChangesOnlyWhereStored :
    (∃ t, exec (.incAbs 0xFFFF#16) start = .next t ∧ start.hookAt 0xFFFF#16 = none ∧
      t.byteAt 0xFFFF#16 ≠ start.byteAt 0xFFFF#16) ∧
    (∃ t, exec .php start = .next t ∧ start.hookAt 0x01FD#16 = none ∧ t.byteAt 0x01FD#16 ≠ start.byteAt 0x01FD#16) ∧
    (∃ t, exec (.jsr 0x0400#16) start = .next t ∧ t.byteAt 0x01FC#16 ≠ start.byteAt 0x01FC#16) ∧
    (∃ t, exec .brk start = .next t ∧ t.byteAt 0x01FB#16 ≠ start.byteAt 0x01FB#16) :=
  ⟨⟨_, rfl, by decide, by decide⟩, ⟨_, rfl, by decide, by decide⟩, ⟨_, rfl, by decide⟩, ⟨_, rfl, by decide⟩⟩

theorem witness_AddressingStageIsPure :
    hooked.hookAt 0xFF00#16 = some .rom ∧ hooked.hookAt 0x2000#16 = none ∧
      hooked.hookAt 0xD010#16 = some (.oracle 1) ∧
      0xD010#16 ∉ pointerReads (.izy 0x40#8) filled ∧ 0xD010#16 ≠ (resolve true (.izy 0x40#8) filled).address := by
  decide

theorem witness_CyclesAndOldPcAreNeverRead : filled.intercepts = [] := by decide

theorem witness_ExtraCyclesOfAnInstruction :
    (Instr.ldaAbx 0x12FF#16).form.2.mode ≠ .rel ∧ (Instr.ldaAbx 0x12FF#16).form.2.mode ≠ .zpr ∧
      (Operand.zp 0x10#8).mode ≠ .abx ∧ (Operand.zp 0x10#8).mode ≠ .aby ∧ (Operand.zp 0x10#8).mode ≠ .izy ∧
      filled.hookAt (zeroExt 0xFF#8) = none ∧ filled.hookAt (zeroExt (0xFF#8 + 1#8)) = none := by decide

theorem witness_AbsoluteIndexedAddress :
    (fetch (load start [(0x0300#16, 0xBD#8)])).1.form.2.mode = .abx ∧
      (fetch (load start [(0x0300#16, 0xB9#8)])).1.form.2.mode = .aby ∧
      Operand.abx 0xFFFF#16 = .abx 0xFFFF#16 ∧ start.x = 0x00#8 ∧ start.y = 0x00#8 := by decide

theorem witness_IndirectJumpPageWrap :
    (fetch (load start [(0x0300#16, 0x6C#8)])).1.form.2.mode = .ind ∧ (0x01FE#16 : Word).toNat % 256 ≠ 255 := by
  decide

theorem witness_IndirectIndexedAddress :
    (fetch (load start [(0x0300#16, 0xB1#8)])).1.form.2.mode = .izy := by decide

theorem witness_ZeroPageModesWrap :
    (fetch (load start [(0x0300#16, 0xA5#8)])).1.form.2.mode = .zp ∧
      (fetch (load start [(0x0300#16, 0xB5#8)])).1.form.2.mode = .zpx ∧
      (fetch (load start [(0x0300#16, 0xB6#8)])).1.form.2.mode = .zpy ∧
      (fetch (load start [(0x0300#16, 0xA1#8)])).1.form.2.mode = .izx ∧
      (fetch (load start [(0x0300#16, 0xB2#8)])).1.form.2.mode = .izp := by decide

theorem witness_DirectModes :
    (fetch (load start [(0x0300#16, 0xEA#8)])).1.form.2.mode = .imp ∧
      (fetch (load start [(0x0300#16, 0x0A#8)])).1.form.2.mode = .acc ∧
      (fetch (load start [(0x0300#16, 0xA9#8)])).1.form.2.mode = .imm ∧
      (fetch (load start [(0x0300#16, 0xAD#8)])).1.form.2.mode = .abs := by decide

theorem witness_LoadsGiveTheOperandByte :
    Instr.form (.ldaImm 0x80#8) = (.lda, .imm 0x80#8) ∧ Instr.form (.ldxZpy 0xFF#8) = (.ldx, .zpy 0xFF#8) ∧
      Instr.form (.ldyAbx 0xFFFF#16) = (.ldy, .abx 0xFFFF#16) := by decide

theorem witness_StoresWriteTheRegister :
    (Instr.form (.staIzy 0x40#8) = (.sta, .izy 0x40#8) ∧ start.a = 0x00#8) ∧
      (Instr.form (.stxZpy 0xFF#8) = (.stx, .zpy 0xFF#8) ∧ start.x = 0x00#8) ∧
      (Instr.form (.styAbs 0xFFFF#16) = (.sty, .abs 0xFFFF#16) ∧ start.y = 0x00#8) ∧
      Instr.form (.stzAbx 0xFFFF#16) = (.stz, .abx 0xFFFF#16) ∧ Memory.wf filled.mem = true ∧
      filled.hookAt (resolve false (.izy 0x40#8) filled).address = none ∧
      0x2002#16 ≠ (resolve false (.izy 0x40#8) filled).address ∧ filled.hookAt 0x2002#16 = none := by decide

theorem witness_CarryIsBitEight :
    (0 < 512) ∧ (511 < 512) ∧ ((-256 : Int) ≤ -256) ∧ ((-256 : Int) < 256) ∧ ((-256 : Int) ≤ 255) ∧
      ((255 : Int) < 256) := by decide

theorem witness_BinaryAdcAndSbc :
    start.flags.d = false ∧ Instr.form (.adcImm 0xFF#8) = (.adc, .imm 0xFF#8) ∧
      Instr.form (.sbcIzp 0x40#8) = (.sbc, .izp 0x40#8) := by decide

theorem witness_DecimalAlgorithms :
    (after (load start [(0x0300#16, 0xF8#8)])).flags.d = true ∧
      Instr.form (.adcImm 0x9D#8) = (.adc, .imm 0x9D#8) ∧ Instr.form (.sbcImm 0x0F#8) = (.sbc, .imm 0x0F#8) := by
  decide

theorem witness_DecimalArithmeticOnValidBcd :
    let s : State := { start with a := 0x99#8, flags := ⟨false, false, true, false, false, true⟩ }
    let v := (resolve true (.imm 0x99#8) s).alu
    s.flags.d = true ∧ s.a.toNat / 16 ≤ 9 ∧ s.a.toNat % 16 ≤ 9 ∧ v.toNat / 16 ≤ 9 ∧ v.toNat % 16 ≤ 9 ∧
      Instr.form (.adcImm 0x99#8) = (.adc, .imm 0x99#8) ∧ Instr.form (.sbcImm 0x99#8) = (.sbc, .imm 0x99#8) := by
  decide

theorem witness_ComparesAreUnsignedAndStoreNothing :
    Instr.form (.cmpIzx 0xFF#8) = (.cmp, .izx 0xFF#8) ∧ Instr.form (.cpxImm 0x00#8) = (.cpx, .imm 0x00#8) ∧
      Instr.form (.cpyAbs 0xFFFF#16) = (.cpy, .abs 0xFFFF#16) := by decide

theorem witness_IncrementAndDecrementOperand :
    Instr.form .incAcc = (.inc, .acc) ∧ Instr.form (.incAbx 0xFFFF#16) = (.inc, .abx 0xFFFF#16) ∧
      Instr.form .decAcc = (.dec, .acc) ∧ Instr.form (.decZpx 0xFF#8) = (.dec, .zpx 0xFF#8) := by decide

theorem witness_LogicAndBitTest :
    Instr.form (.andIzx 0xFF#8) = (.and, .izx 0xFF#8) ∧ Instr.form (.oraIzy 0x40#8) = (.ora, .izy 0x40#8) ∧
      Instr.form (.eorAby 0xFFFF#16) = (.eor, .aby 0xFFFF#16) ∧ Instr.form (.bitImm 0xC0#8) = (.bit, .imm 0xC0#8) ∧
      Instr.form (.bitAbx 0x0000#16) = (.bit, .abx 0x0000#16) := by decide

theorem witness_ShiftsAndRotates :
    Instr.form .aslAcc = (.asl, .acc) ∧ Instr.form (.lsrAbs 0xFFFF#16) = (.lsr, .abs 0xFFFF#16) ∧
      Instr.form (.rolZp 0x10#8) = (.rol, .zp 0x10#8) ∧ Instr.form .rorAcc = (.ror, .acc) := by decide

theorem witness_MemoryBitOperations :
    Instr.form (.trbAbs 0xFFFF#16) = (.trb, .abs 0xFFFF#16) ∧ Instr.form (.tsbZp 0x10#8) = (.tsb, .zp 0x10#8) ∧
      Instr.form (.rmb0 0x10#8) = (.rmb 0, .zp 0x10#8) ∧ Instr.form (.rmb7 0xFF#8) = (.rmb 7, .zp 0xFF#8) ∧
      Instr.form (.smb0 0x10#8) = (.smb 0, .zp 0x10#8) ∧ Instr.form (.smb7 0xFF#8) = (.smb 7, .zp 0xFF#8) := by
  decide

theorem witness_RockwellBitBranches :
    Instr.form (.bbr0 0x10#8 0x80#8) = (.bbr 0, .zpr 0x10#8 0x80#8) ∧
      Instr.form (.bbr7 0x10#8 0x7F#8) = (.bbr 7, .zpr 0x10#8 0x7F#8) ∧
      Instr.form (.bbs0 0x10#8 0x00#8) = (.bbs 0, .zpr 0x10#8 0x00#8) ∧
      Instr.form (.bbs7 0x10#8 0xFD#8) = (.bbs 7, .zpr 0x10#8 0xFD#8) ∧
      (fetch (load start [(0x0300#16, 0x0F#8)])).1.form.2.mode = .zpr := by decide

/-- With SP 00, where the second and third slot wrap. -/
theorem witness_ReturnsUndoCallAndInterrupt :
    let s : State := { filled with sp := 0x00#8 }
    Memory.wf s.mem = true ∧ s.hookAt (stackSlot s.sp) = none ∧ s.hookAt (stackSlot (s.sp - 1#8)) = none ∧
      s.hookAt (stackSlot (s.sp - 2#8)) = none := by decide

/-- 256 bytes, the largest count. -/
theorem witness_StackIsLastInFirstOut :
    (List.replicate 256 (0xAA#8 : Byte)).length ≤ 256 ∧ Memory.wf filled.mem = true ∧
      ∀ k : Byte, filled.hookAt (stackSlot k) = none :=
  ⟨Nat.le_of_eq List.length_replicate, by decide, fun _ => rfl⟩

theorem witness_InterruptFrameOnTheStack :
    let s : State := { hooked with sp := 0x01#8 }
    Memory.wf s.mem = true ∧ s.hookAt (stackSlot s.sp) = none ∧ s.hookAt (stackSlot (s.sp - 1#8)) = none ∧
      s.hookAt (stackSlot (s.sp - 2#8)) = none ∧
      (s.hookAt 0x0200#16 = none ∧ 0x0200#16 ≠ stackSlot s.sp ∧ 0x0200#16 ≠ stackSlot (s.sp - 1#8) ∧
        0x0200#16 ≠ stackSlot (s.sp - 2#8)) ∧
      (s.hookAt 0xFFFE#16 = none ∧ s.hookAt (0xFFFE#16 + 1#16) = none ∧ hiByte 0xFFFE#16 ≠ 0x01#8 ∧
        hiByte (0xFFFE#16 + 1#16) ≠ 0x01#8) := by decide

theorem witness_InterruptCheck :
    start.pending = [] ∧
      ((raiseMaskableInterrupt 0 State.reset).pending ≠ [] ∧ (raiseMaskableInterrupt 0 State.reset).flags.i = true) ∧
      ((raiseMaskableInterrupt 0 start).pending ≠ [] ∧ (raiseMaskableInterrupt 0 start).flags.i = false) := by
  decide

theorem witness_IllegalOpcodesDoNothing :
    Instr.form .ill02 = (.ill, .imp) ∧ Instr.form .illFC = (.ill, .imp) := by decide

theorem witness_RaisingASourceIsUnion :
    pendingWf (raiseMaskableInterrupt 3 start).pending = true ∧ 3 ∈ (raiseMaskableInterrupt 3 start).pending := by
  decide

theorem witness_ClearingASourceIsDifference :
    pendingWf (raiseMaskableInterrupt 3 start).pending = true ∧ 4 ∉ (raiseMaskableInterrupt 3 start).pending := by
  decide

/-- No hook at the vector, a byte with none, and one with a device's. -/
theorem witness_ResetCpuCall :
    hooked.hookAt 0xFFFC#16 = none ∧ hooked.hookAt 0xFFFD#16 = none ∧ hooked.hookAt 0x0000#16 = none ∧
      hooked.hookAt 0xD010#16 = some (.oracle 1) ∧ 0xD010#16 ≠ (0xFFFC#16 : Word) ∧
      0xD010#16 ≠ (0xFFFD#16 : Word) := by decide

/-- No byte, and 65536 bytes, the largest count. -/
theorem witness_CopyBytesCall :
    ([] : List Byte).length ≤ 65536 ∧ (List.replicate 65536 (0x00#8 : Byte)).length ≤ 65536 ∧
      Memory.wf filled.mem = true ∧ 65535 < (List.replicate 65536 (0x00#8 : Byte)).length ∧
      (∀ k, k < ([0x41#8, 0x42#8] : List Byte).length → (0x0001#16 : Word) ≠ 0xFFFF#16 + BitVec.ofNat 16 k) :=
  ⟨by decide, Nat.le_of_eq List.length_replicate, by decide, by rw [List.length_replicate]; decide, by decide⟩

/-- The last range and the last address that fit, the first that do not, an empty range, a table to clear. -/
theorem witness_BindingARange :
    65535 + 1 ≤ 65536 ∧ ¬ (65535 < 65536 ∧ 0 < 2 ∧ 65535 + 2 ≤ 65536) ∧
      ¬ (0 < 65536 ∧ 0 < 0 ∧ 0 + 0 ≤ 65536) ∧ 65535 < 65536 ∧ 65536 ≤ 65536 ∧
      interceptsWf hooked.intercepts = true := by decide

theorem witness_MemoryRoundTrip :
    Memory.wf filled.mem = true ∧ filled.hookAt 0xFFFF#16 = none ∧ 0x0000#16 ≠ (0xFFFF#16 : Word) := by decide

theorem witness_InterceptPath :
    hooked.hookAt 0x0000#16 = none ∧ hooked.hookAt 0xD010#16 = some (.oracle 1) ∧ Memory.wf hooked.mem = true ∧
      hooked.hookAt 0xFF00#16 = some .rom := by decide


end Sys2Proof.Tests
end

section
/-! The statements on memory (20_memory.md): R71 and R57. -/

namespace Sys2Proof.Machine

/-! ### `copyBytes` (20_memory.md R57) -/

@[simp] theorem copyBytes_nil (start : Word) (s : State) : copyBytes start [] s = s := rfl

@[simp] theorem copyBytes_cons (start : Word) (b : Byte) (rest : List Byte) (s : State) :
    copyBytes start (b :: rest) s = copyBytes (start + 1#16) rest (s.putByte start b) := rfl

/-- `copyBytes` changes nothing but memory. -/
@[simp] theorem copyBytes_setMem (start : Word) (bytes : List Byte) (s : State) (m : List Host.Cell) :
    (copyBytes start bytes s).setMem m = s.setMem m := by
  induction bytes generalizing start s with
  | nil => rfl
  | cons b rest ih => exact ih (start + 1#16) (s.putByte start b)

/-- Offset `k + 1` from an address is offset `k` from the next one. -/
theorem word_add_ofNat_succ (start : Word) (k : Nat) :
    start + BitVec.ofNat 16 (k + 1) = start + 1#16 + BitVec.ofNat 16 k := by
  rw [BitVec.add_assoc, Nat.add_comm k 1, BitVec.ofNat_add]

/-- Fewer than 65536 steps up from an address do not come back to it. -/
theorem word_ne_add_ofNat_succ (start : Word) {k : Nat} (hk : k + 1 < 65536) :
    start ≠ start + BitVec.ofNat 16 (k + 1) := by
  intro h
  have h' := congrArg BitVec.toNat h
  rw [BitVec.toNat_add, BitVec.toNat_ofNat] at h'
  omega

/-- Every byte outside the addresses copied to is as before. -/
theorem copyBytes_byteAt_other (start : Word) (bytes : List Byte) (s : State) {a : Word}
    (ha : ∀ k, k < bytes.length → a ≠ start + BitVec.ofNat 16 k) :
    (copyBytes start bytes s).byteAt a = s.byteAt a := by
  induction bytes generalizing start s with
  | nil => rfl
  | cons b rest ih =>
    have hhead : a ≠ start := by simpa using ha 0 (Nat.succ_pos _)
    have htail : ∀ k, k < rest.length → a ≠ start + 1#16 + BitVec.ofNat 16 k := fun k hk =>
      word_add_ofNat_succ start k ▸ ha (k + 1) (Nat.succ_lt_succ hk)
    rw [copyBytes_cons, ih _ _ htail, byteAt_putByte_other s b hhead]

/-- Byte `k` stands at `start + k`: with at most 65536 bytes no later one overwrites it. -/
theorem copyBytes_byteAt_copied (start : Word) (bytes : List Byte) {s : State} (hlen : bytes.length ≤ 65536)
    (hm : Memory.wf s.mem = true) {k : Nat} (hk : k < bytes.length) :
    (copyBytes start bytes s).byteAt (start + BitVec.ofNat 16 k) = bytes.getD k 0#8 := by
  induction bytes generalizing start s k with
  | nil => exact absurd hk (Nat.not_lt_zero k)
  | cons b rest ih =>
    rw [List.length_cons] at hlen hk
    cases k with
    | zero =>
      have hkept : ∀ j, j < rest.length → start ≠ start + 1#16 + BitVec.ofNat 16 j := fun j hj =>
        word_add_ofNat_succ start j ▸ word_ne_add_ofNat_succ start (by omega)
      rw [BitVec.add_zero, copyBytes_cons, copyBytes_byteAt_other _ _ _ hkept, byteAt_putByte_same hm,
        List.getD_cons_zero]
    | succ j =>
      rw [word_add_ofNat_succ, copyBytes_cons, List.getD_cons_succ]
      exact ih (start + 1#16) (by omega) (Memory.wf_memPut start b hm) (by omega)

/-- Settles O55, by induction on the bytes copied. -/
theorem copyBytesCall : Obligations.CopyBytesCall :=
  ⟨copyBytes_nil, copyBytes_cons, fun start bytes s => copyBytes_setMem start bytes s s.mem,
    fun start bytes s hlen hm =>
      ⟨fun _ hk => copyBytes_byteAt_copied start bytes hlen hm hk,
        fun _ hb => copyBytes_byteAt_other start bytes s hb⟩⟩

/-! ### A write and the read after it (20_memory.md R71) -/

/-- What was written where no hook is bound is what a read there returns. -/
theorem memRead_memWrite_same {s : State} {a : Word} (v : Byte) (hm : Memory.wf s.mem = true)
    (h : s.hookAt a = none) : (memRead a (memWrite a v s)).1 = v := by
  have hw : (memWrite a v s).hookAt a = none := (memWrite_hookAt s a v a).trans h
  rw [memRead_unbound hw]
  exact memWrite_byteAt_same v hm h

/-- Settles O57, from the rules of one read and one write. -/
theorem memoryRoundTrip : Obligations.MemoryRoundTrip := fun s a v hm h =>
  ⟨memRead_memWrite_same v hm h, memWrite_noMem s a v, fun _ hb => memWrite_byteAt_other s v hb⟩

end Sys2Proof.Machine
end

section
/-! The statements on the encoding (30_encoding.md): R88. -/

namespace Sys2Proof

/-- No layout has more than two operand bytes (R81). -/
theorem Layout.byteCount_le_two (l : Layout) : l.byteCount ≤ 2 := by
  cases l <;> decide

/-- No opcode has more than two operand bytes: the count is that of its mode's layout. -/
theorem opcodeOperandBytes_le_two (op : Byte) : opcodeOperandBytes op ≤ 2 := by
  obtain ⟨-, -, hcount⟩ := decodeOpcode_entry op 0#8 0#8
  rw [hcount]
  exact Layout.byteCount_le_two (opcodeMode op).layout

/-- The instruction of an entry of the map has the entry's opcode. -/
@[simp] theorem decodeOpcode_opcode (op b1 b2 : Byte) : (decodeOpcode op b1 b2).opcode = op :=
  (decodeOpcode_entry op b1 b2).1

/-- Decoding answers the opcode's entry when its operand bytes are all there. -/
theorem decode_cons_of_le {op : Byte} {rest : List Byte} (h : opcodeOperandBytes op ≤ rest.length) :
    decode (op :: rest)
      = .ok (decodeOpcode op (rest.getD 0 0) (rest.getD 1 0), rest.drop (opcodeOperandBytes op)) :=
  if_neg (Nat.not_lt.mpr h)

/-- Settles O4: two bytes after the opcode are enough for the operand bytes of every entry of the map. -/
theorem decoderIsTotal : Obligations.DecoderIsTotal := by
  intro op
  refine ⟨opcodeOperandBytes op, opcodeOperandBytes_le_two op, fun b1 b2 rest => ?_⟩
  have henough : opcodeOperandBytes op ≤ (b1 :: b2 :: rest).length :=
    (opcodeOperandBytes_le_two op).trans (by simp)
  exact ⟨decodeOpcode op b1 b2, decode_cons_of_le henough, decodeOpcode_opcode op b1 b2⟩

end Sys2Proof
end

section
/-! The statements on the engine and the addressing modes (40_engine_and_addressing.md): R113, R114,
R117, R123 to R126. -/

namespace Sys2Proof

/-! ### The notation of 00_scope.md R11 and R15 as numbers -/

/-- `{h, l}` is `h * 256 + l` (R11). -/
@[simp] theorem toNat_mkWord (h l : Byte) : (mkWord h l).toNat = h.toNat * 256 + l.toNat := by
  have hl : l.toNat < 2 ^ 8 := l.isLt
  rw [mkWord, BitVec.toNat_append, ← Nat.shiftLeft_add_eq_or_of_lt hl, Nat.shiftLeft_eq]

/-- `zext` keeps the number (R11). -/
@[simp] theorem toNat_zeroExt (b : Byte) : (zeroExt b).toNat = b.toNat :=
  BitVec.toNat_setWidth_of_le (by decide)

/-- The page number of an address (R15). -/
@[simp] theorem toNat_hiByte (w : Word) : (hiByte w).toNat = w.toNat / 256 := by
  rw [hiByte, BitVec.extractLsb'_toNat, Nat.shiftRight_eq_div_pow]
  omega

/-- `lo({h, l})` is `l`. -/
@[simp] theorem loByte_mkWord (h l : Byte) : loByte (mkWord h l) = l := by
  apply BitVec.eq_of_toNat_eq
  rw [loByte, BitVec.extractLsb'_toNat, Nat.shiftRight_zero, toNat_mkWord]
  omega

/-- A page is crossed when the quotients by 256 differ (R15). -/
theorem pageCross_eq (a b : Word) :
    pageCross a b = if a.toNat / 256 = b.toNat / 256 then 0 else 1 := by
  simp only [pageCross, ← BitVec.toNat_inj, toNat_hiByte]

/-- An index is added to an address modulo 65536 (R113, R114, R117). -/
theorem toNat_add_zeroExt (w : Word) (x : Byte) :
    (w + zeroExt x).toNat = (w.toNat + x.toNat) % 65536 := by
  rw [BitVec.toNat_add, toNat_zeroExt]

/-! ### The operand that a fetch decodes -/

/-- The operand of a mode is of that mode. -/
@[simp] theorem Mode.operand_mode (m : Mode) (b1 b2 : Byte) : (m.operand b1 b2).mode = m := by
  cases m <;> rfl

/-- The operand of an opcode's instruction is that of its mode. -/
theorem decodeOpcode_operand (op b1 b2 : Byte) :
    (decodeOpcode op b1 b2).form.2 = (opcodeMode op).operand b1 b2 := by
  obtain ⟨-, hform, -⟩ := decodeOpcode_entry op b1 b2
  rw [hform]

end Sys2Proof

namespace Sys2Proof.Machine

/-- What a fetch decodes is the fetched opcode with two bytes. -/
theorem fetch_eq_decodeOpcode (s : State) :
    ∃ b1 b2, (fetch s).1 = decodeOpcode (fetchOpcode s).1 b1 b2 := by
  unfold fetch
  dsimp only
  split <;> exact ⟨_, _, rfl⟩

/-- The mode of a fetched instruction is that of its opcode. -/
theorem fetch_mode (s : State) : (fetch s).1.form.2.mode = opcodeMode (fetchOpcode s).1 := by
  obtain ⟨b1, b2, h⟩ := fetch_eq_decodeOpcode s
  rw [h, decodeOpcode_operand, Mode.operand_mode]

/-- A fetched one-byte operand is the byte read at the `PC` after the opcode (R81, R101). -/
theorem fetch_oneByte {s : State} {m : Mode} (hm : (fetch s).1.form.2.mode = m) (hl : m.layout = .f1) :
    (fetch s).1.form.2 = m.operand (memRead (fetchOpcode s).2.pc (fetchOpcode s).2).1 0#8 ∧
      (fetch s).2 = (memRead (fetchOpcode s).2.pc (fetchOpcode s).2).2 := by
  rw [fetch_mode] at hm
  subst hm
  have hop : opcodeLayout (fetchOpcode s).1 = .f1 := hl
  simp only [fetch, hop, decodeOpcode_operand, and_self]

/-- A fetched two-byte operand is the word read at the `PC` after the opcode (R81, R101). -/
theorem fetch_word {s : State} {m : Mode} (hm : (fetch s).1.form.2.mode = m) (hl : m.layout = .f2) :
    ∃ b1 b2, mkWord b2 b1 = (memRead16 (fetchOpcode s).2.pc (fetchOpcode s).2).1 ∧
      (fetch s).1.form.2 = m.operand b1 b2 ∧
      (fetch s).2 = (memRead16 (fetchOpcode s).2.pc (fetchOpcode s).2).2 := by
  rw [fetch_mode] at hm
  subst hm
  have hop : opcodeLayout (fetchOpcode s).1 = .f2 := hl
  simp only [fetch, hop, decodeOpcode_operand]
  exact ⟨_, _, rfl, rfl, rfl⟩

/-! ### The operand load -/

@[simp] theorem operandAt_address (load : Bool) (a : Word) (k : Nat) (s : State) :
    (operandAt load a k s).address = a := by
  cases load <;> rfl

@[simp] theorem operandAt_extra (load : Bool) (a : Word) (k : Nat) (s : State) :
    (operandAt load a k s).extra = k := by
  cases load <;> rfl

/-- The operand load is one read at the effective address, or none (R103, R105). -/
theorem operandAt_reads (load : Bool) (a : Word) (k : Nat) (s : State) :
    if load = true then ((operandAt load a k s).alu, (operandAt load a k s).state) = memRead a s
    else (operandAt load a k s).state = s := by
  cases load <;> rfl

/-! ### Absolute indexed (40_engine_and_addressing.md R113, R114) -/

/-- The index register of an absolute indexed operand is added to its word, and a page cross costs
one cycle. -/
theorem resolve_absoluteIndexed {m : Operand} {w : Word} {x : Byte} {s : State}
    (h : (m = .abx w ∧ x = s.x) ∨ (m = .aby w ∧ x = s.y)) (load : Bool) :
    resolve load m s = operandAt load (w + zeroExt x) (pageCross w (w + zeroExt x)) s := by
  obtain ⟨rfl, rfl⟩ | ⟨rfl, rfl⟩ := h <;> rfl

/-- Settles O19, from the fetch of a word and one operand load at the indexed address. -/
theorem absoluteIndexedAddress : Obligations.AbsoluteIndexedAddress := by
  refine ⟨fun s => ⟨fun hm => ?_, fun hm => ?_⟩, fun w s m x hx load => ?_⟩
  · obtain ⟨b1, b2, hw, hform, hstate⟩ := fetch_word hm rfl
    exact ⟨hform.trans (congrArg Operand.abx hw), hstate⟩
  · obtain ⟨b1, b2, hw, hform, hstate⟩ := fetch_word hm rfl
    exact ⟨hform.trans (congrArg Operand.aby hw), hstate⟩
  · rw [resolve_absoluteIndexed hx, operandAt_address, operandAt_extra, pageCross_eq, toNat_add_zeroExt]
    exact ⟨rfl, rfl, operandAt_reads load _ _ s⟩

/-! ### Indirect indexed (40_engine_and_addressing.md R117) -/

/-- The zero-page address of a byte, as a number. -/
theorem zeroExt_eq_ofNat (z : Byte) : zeroExt z = BitVec.ofNat 16 z.toNat :=
  (BitVec.ofNat_toNat 16 z).symm

/-- The address after a zero-page address stays in the zero page (R116 to R118). -/
theorem zeroExt_succ_eq_ofNat (z : Byte) : zeroExt (z + 1#8) = BitVec.ofNat 16 ((z.toNat + 1) % 256) := by
  rw [zeroExt_eq_ofNat, BitVec.toNat_add]
  rfl

/-- A pointer's word plus an index, as a number modulo 65536. -/
theorem mkWord_add_zeroExt (h l y : Byte) :
    mkWord h l + zeroExt y = BitVec.ofNat 16 (h.toNat * 256 + l.toNat + y.toNat) := by
  apply BitVec.eq_of_toNat_eq
  rw [toNat_add_zeroExt, toNat_mkWord, BitVec.toNat_ofNat]

/-- Settles O21, from the fetch of a byte and one operand load at the pointer plus `Y`. -/
theorem indirectIndexedAddress : Obligations.IndirectIndexedAddress := by
  refine ⟨fun s hm => fetch_oneByte hm rfl, fun load z s => ?_⟩
  dsimp only
  rw [← zeroExt_eq_ofNat, ← zeroExt_succ_eq_ofNat, ← mkWord_add_zeroExt]
  simp only [resolve, zeroPagePointer, loByte_mkWord]
  cases load <;> rfl

/-! ### The carry helpers (40_engine_and_addressing.md R123, R124) -/

/-- Up to 511, bit 8 of a sum says whether it reaches 256. -/
theorem carryFromAdd_eq_testBit {r : Nat} (hr : r < 512) : carryFromAdd r = r.testBit 8 := by
  rw [carryFromAdd, Nat.testBit_eq_decide_div_mod_eq, decide_eq_decide]
  omega

/-- Bit 8 of a difference in nine bits is its sign. -/
theorem carryFromSub_eq_not_getLsbD {r : Int} (hlo : -256 ≤ r) (hhi : r < 256) :
    carryFromSub r = !(BitVec.ofInt 9 r).getLsbD 8 := by
  have hint : (BitVec.ofInt 9 r).toInt = r := BitVec.toInt_ofInt_eq_self (by decide) hlo hhi
  have hsign : (BitVec.ofInt 9 r).getLsbD 8 = decide (r < 0) := calc
    _ = (BitVec.ofInt 9 r).msb := (BitVec.msb_eq_getLsbD_last _).symm
    _ = decide ((BitVec.ofInt 9 r).toInt < 0) := BitVec.msb_eq_toInt
    _ = decide (r < 0) := by rw [hint]
  rw [hsign, carryFromSub, ← decide_not, decide_eq_decide]
  omega

/-- Settles O26, from the two readings of bit 8. -/
theorem carryIsBitEight : Obligations.CarryIsBitEight :=
  ⟨fun _ hr => ⟨carryFromAdd_eq_testBit hr, decide_eq_true_iff⟩,
    fun _ hlo hhi => ⟨carryFromSub_eq_not_getLsbD hlo hhi, decide_eq_true_iff⟩⟩

/-! ### Push and pop (40_engine_and_addressing.md R125, R126) -/

/-- The slot `SP` names is `0x0100 + SP` (10_state.md R26). -/
theorem stackSlot_eq_ofNat (sp : Byte) : stackSlot sp = BitVec.ofNat 16 (0x0100 + sp.toNat) := by
  apply BitVec.eq_of_toNat_eq
  rw [stackSlot, toNat_mkWord, BitVec.toNat_ofNat]
  simp only [BitVec.toNat_ofNat]
  omega

/-- Settles O38: `SP` steps modulo 256 and its slot is `0x0100 + SP`. -/
theorem pushAndPop : Obligations.PushAndPop := by
  intro s
  have hdec : s.sp - 1#8 = BitVec.ofNat 8 (s.sp.toNat + 255) := by bv_omega
  have hinc : s.sp + 1#8 = BitVec.ofNat 8 (s.sp.toNat + 1) := by bv_omega
  constructor
  · intro v
    rw [push, memWrite_sp, stackSlot_eq_ofNat, hdec]
  · rw [pop, State.setSp_sp, stackSlot_eq_ofNat, BitVec.toNat_add, hinc]
    rfl

end Sys2Proof.Machine
end

section
/-! The statements on exceptions (60_exceptions.md): R250, R253, R262, R265. -/

namespace Sys2Proof.Machine

/-! ### Nothing faults (60_exceptions.md R250) -/

/-- A step answers a next state, stopped, waiting or running (R100 stages 1 and 2, then 3 to 8). -/
theorem step_neverStops (s : State) : NeverStops s := by
  cases hs : s.stopped with
  | true => exact ⟨_, step_stopped hs⟩
  | false =>
    cases hw : s.waiting with
    | true => exact ⟨_, step_waiting hs hw⟩
    | false => exact ⟨_, step_running hs hw (exec_eq _ _)⟩

/-- Settles O7: `exec` answers the state of the instruction's form, and a step adds no other outcome. -/
theorem nothingFaults : Obligations.NothingFaults :=
  ⟨fun i s => ⟨_, exec_eq i s⟩, step_neverStops⟩

/-! ### The interrupt entry (60_exceptions.md R253) -/

/-- The flags an entry leaves are the interrupted ones with `D` clear and `I` set: neither the pushes
nor the read of the vector change a flag. -/
theorem interrupt_eq (vector : Word) (brk : Bool) (s : State) :
    interrupt vector brk s =
      let r := memRead16 vector (push (flagsByte s.flags brk) (push16 s.pc s))
      (r.2.setPc r.1).setFlags s.flags.enterInterrupt := by
  simp only [interrupt, memRead16_flags, push_flags, push16_flags]

/-- Three pushes take `SP` down by three modulo 256 (R125). -/
theorem sp_sub_three (sp : Byte) : sp - 1#8 - 1#8 - 1#8 = BitVec.ofNat 8 (sp.toNat + 253) := by
  bv_omega

/-- Settles O43: the entry's own sequence, and what it changes beside memory. -/
theorem interruptEntrySequence : Obligations.InterruptEntrySequence := by
  intro vector brk s
  refine ⟨interrupt_eq vector brk s, ?_⟩
  rw [interrupt_noMem, sp_sub_three]
  rfl

/-! ### Raising a source (60_exceptions.md R262) -/

/-- In a canonical list of sources none is below the bound. -/
theorem le_of_mem_sources {p : List Nat} {lo k : Nat} (h : sourcesWfFrom lo p = true) (hk : k ∈ p) :
    lo ≤ k := by
  induction p generalizing lo with
  | nil => cases hk
  | cons j rest ih =>
    simp only [sourcesWfFrom, Bool.and_eq_true, decide_eq_true_eq] at h
    obtain ⟨hj, hrest⟩ := h
    rcases List.mem_cons.mp hk with rfl | hk
    · exact hj
    · exact hj.trans (Nat.le_of_succ_le (ih hrest hk))

/-- Inserting a source that a canonical list holds gives the list back. -/
theorem insertSource_of_mem {p : List Nat} {lo k : Nat} (h : sourcesWfFrom lo p = true) (hk : k ∈ p) :
    insertSource p k = p := by
  induction p generalizing lo with
  | nil => cases hk
  | cons j rest ih =>
    simp only [sourcesWfFrom, Bool.and_eq_true] at h
    rcases List.mem_cons.mp hk with rfl | hk
    · simp [insertSource]
    · have hlt : j < k := le_of_mem_sources h.2 hk
      simp [insertSource, hlt, ih h.2 hk]

/-- Settles O51: the union of sources, one already in a canonical set left as it is. -/
theorem raisingASourceIsUnion : Obligations.RaisingASourceIsUnion := by
  intro k s
  have hmem := mem_insertSource s.pending k
  refine ⟨hmem, fun hwf hk => ?_, List.ne_nil_of_mem ((hmem k).mpr (.inl rfl)), rfl⟩
  exact congrArg s.setPending (insertSource_of_mem hwf hk)

/-! ### `setPC` (60_exceptions.md R265) -/

/-- Settles O54: `setPC` is the one register write. -/
theorem setPcCall : Obligations.SetPcCall := fun _ _ => rfl

end Sys2Proof.Machine
end

section
/-! The statements on the encoding (30_encoding.md): R80 to R88, and the table of base cycles (70_reset_and_hazards.md R289). -/

namespace Sys2Proof.Laws

/-- The family `OpcodeRow` over every constructor: the decoder's entry at an instruction's own opcode. -/
theorem OpcodeRow.all : ∀ i : Instr, OpcodeRow.Statement i
  | .oraIzx zadr => oraIzx zadr
  | .tsbZp zadr => tsbZp zadr
  | .oraZp zadr => oraZp zadr
  | .aslZp zadr => aslZp zadr
  | .rmb0 zadr => rmb0 zadr
  | .oraImm v => oraImm v
  | .tsbAbs addr => tsbAbs addr
  | .oraAbs addr => oraAbs addr
  | .aslAbs addr => aslAbs addr
  | .bbr0 zadr disp => bbr0 zadr disp
  | .bpl disp => bpl disp
  | .oraIzy zadr => oraIzy zadr
  | .oraIzp zadr => oraIzp zadr
  | .trbZp zadr => trbZp zadr
  | .oraZpx zadr => oraZpx zadr
  | .aslZpx zadr => aslZpx zadr
  | .rmb1 zadr => rmb1 zadr
  | .oraAby addr => oraAby addr
  | .trbAbs addr => trbAbs addr
  | .oraAbx addr => oraAbx addr
  | .aslAbx addr => aslAbx addr
  | .bbr1 zadr disp => bbr1 zadr disp
  | .jsr addr => jsr addr
  | .andIzx zadr => andIzx zadr
  | .bitZp zadr => bitZp zadr
  | .andZp zadr => andZp zadr
  | .rolZp zadr => rolZp zadr
  | .rmb2 zadr => rmb2 zadr
  | .andImm v => andImm v
  | .bitAbs addr => bitAbs addr
  | .andAbs addr => andAbs addr
  | .rolAbs addr => rolAbs addr
  | .bbr2 zadr disp => bbr2 zadr disp
  | .bmi disp => bmi disp
  | .andIzy zadr => andIzy zadr
  | .andIzp zadr => andIzp zadr
  | .bitZpx zadr => bitZpx zadr
  | .andZpx zadr => andZpx zadr
  | .rolZpx zadr => rolZpx zadr
  | .rmb3 zadr => rmb3 zadr
  | .andAby addr => andAby addr
  | .bitAbx addr => bitAbx addr
  | .andAbx addr => andAbx addr
  | .rolAbx addr => rolAbx addr
  | .bbr3 zadr disp => bbr3 zadr disp
  | .eorIzx zadr => eorIzx zadr
  | .eorZp zadr => eorZp zadr
  | .lsrZp zadr => lsrZp zadr
  | .rmb4 zadr => rmb4 zadr
  | .eorImm v => eorImm v
  | .jmpAbs addr => jmpAbs addr
  | .eorAbs addr => eorAbs addr
  | .lsrAbs addr => lsrAbs addr
  | .bbr4 zadr disp => bbr4 zadr disp
  | .bvc disp => bvc disp
  | .eorIzy zadr => eorIzy zadr
  | .eorIzp zadr => eorIzp zadr
  | .eorZpx zadr => eorZpx zadr
  | .lsrZpx zadr => lsrZpx zadr
  | .rmb5 zadr => rmb5 zadr
  | .eorAby addr => eorAby addr
  | .eorAbx addr => eorAbx addr
  | .lsrAbx addr => lsrAbx addr
  | .bbr5 zadr disp => bbr5 zadr disp
  | .adcIzx zadr => adcIzx zadr
  | .stzZp zadr => stzZp zadr
  | .adcZp zadr => adcZp zadr
  | .rorZp zadr => rorZp zadr
  | .rmb6 zadr => rmb6 zadr
  | .adcImm v => adcImm v
  | .jmpInd ptr => jmpInd ptr
  | .adcAbs addr => adcAbs addr
  | .rorAbs addr => rorAbs addr
  | .bbr6 zadr disp => bbr6 zadr disp
  | .bvs disp => bvs disp
  | .adcIzy zadr => adcIzy zadr
  | .adcIzp zadr => adcIzp zadr
  | .stzZpx zadr => stzZpx zadr
  | .adcZpx zadr => adcZpx zadr
  | .rorZpx zadr => rorZpx zadr
  | .rmb7 zadr => rmb7 zadr
  | .adcAby addr => adcAby addr
  | .jmpIax ptr => jmpIax ptr
  | .adcAbx addr => adcAbx addr
  | .rorAbx addr => rorAbx addr
  | .bbr7 zadr disp => bbr7 zadr disp
  | .bra disp => bra disp
  | .staIzx zadr => staIzx zadr
  | .styZp zadr => styZp zadr
  | .staZp zadr => staZp zadr
  | .stxZp zadr => stxZp zadr
  | .smb0 zadr => smb0 zadr
  | .bitImm v => bitImm v
  | .styAbs addr => styAbs addr
  | .staAbs addr => staAbs addr
  | .stxAbs addr => stxAbs addr
  | .bbs0 zadr disp => bbs0 zadr disp
  | .bcc disp => bcc disp
  | .staIzy zadr => staIzy zadr
  | .staIzp zadr => staIzp zadr
  | .styZpx zadr => styZpx zadr
  | .staZpx zadr => staZpx zadr
  | .stxZpy zadr => stxZpy zadr
  | .smb1 zadr => smb1 zadr
  | .staAby addr => staAby addr
  | .stzAbs addr => stzAbs addr
  | .staAbx addr => staAbx addr
  | .stzAbx addr => stzAbx addr
  | .bbs1 zadr disp => bbs1 zadr disp
  | .ldyImm v => ldyImm v
  | .ldaIzx zadr => ldaIzx zadr
  | .ldxImm v => ldxImm v
  | .ldyZp zadr => ldyZp zadr
  | .ldaZp zadr => ldaZp zadr
  | .ldxZp zadr => ldxZp zadr
  | .smb2 zadr => smb2 zadr
  | .ldaImm v => ldaImm v
  | .ldyAbs addr => ldyAbs addr
  | .ldaAbs addr => ldaAbs addr
  | .ldxAbs addr => ldxAbs addr
  | .bbs2 zadr disp => bbs2 zadr disp
  | .bcs disp => bcs disp
  | .ldaIzy zadr => ldaIzy zadr
  | .ldaIzp zadr => ldaIzp zadr
  | .ldyZpx zadr => ldyZpx zadr
  | .ldaZpx zadr => ldaZpx zadr
  | .ldxZpy zadr => ldxZpy zadr
  | .smb3 zadr => smb3 zadr
  | .ldaAby addr => ldaAby addr
  | .ldyAbx addr => ldyAbx addr
  | .ldaAbx addr => ldaAbx addr
  | .ldxAby addr => ldxAby addr
  | .bbs3 zadr disp => bbs3 zadr disp
  | .cpyImm v => cpyImm v
  | .cmpIzx zadr => cmpIzx zadr
  | .cpyZp zadr => cpyZp zadr
  | .cmpZp zadr => cmpZp zadr
  | .decZp zadr => decZp zadr
  | .smb4 zadr => smb4 zadr
  | .cmpImm v => cmpImm v
  | .cpyAbs addr => cpyAbs addr
  | .cmpAbs addr => cmpAbs addr
  | .decAbs addr => decAbs addr
  | .bbs4 zadr disp => bbs4 zadr disp
  | .bne disp => bne disp
  | .cmpIzy zadr => cmpIzy zadr
  | .cmpIzp zadr => cmpIzp zadr
  | .cmpZpx zadr => cmpZpx zadr
  | .decZpx zadr => decZpx zadr
  | .smb5 zadr => smb5 zadr
  | .cmpAby addr => cmpAby addr
  | .cmpAbx addr => cmpAbx addr
  | .decAbx addr => decAbx addr
  | .bbs5 zadr disp => bbs5 zadr disp
  | .cpxImm v => cpxImm v
  | .sbcIzx zadr => sbcIzx zadr
  | .cpxZp zadr => cpxZp zadr
  | .sbcZp zadr => sbcZp zadr
  | .incZp zadr => incZp zadr
  | .smb6 zadr => smb6 zadr
  | .sbcImm v => sbcImm v
  | .cpxAbs addr => cpxAbs addr
  | .sbcAbs addr => sbcAbs addr
  | .incAbs addr => incAbs addr
  | .bbs6 zadr disp => bbs6 zadr disp
  | .beq disp => beq disp
  | .sbcIzy zadr => sbcIzy zadr
  | .sbcIzp zadr => sbcIzp zadr
  | .sbcZpx zadr => sbcZpx zadr
  | .incZpx zadr => incZpx zadr
  | .smb7 zadr => smb7 zadr
  | .sbcAby addr => sbcAby addr
  | .sbcAbx addr => sbcAbx addr
  | .incAbx addr => incAbx addr
  | .bbs7 zadr disp => bbs7 zadr disp
  | .brk => brk
  | .ill02 => ill02
  | .ill03 => ill03
  | .php => php
  | .aslAcc => aslAcc
  | .ill0B => ill0B
  | .ill13 => ill13
  | .clc => clc
  | .incAcc => incAcc
  | .ill1B => ill1B
  | .ill22 => ill22
  | .ill23 => ill23
  | .plp => plp
  | .rolAcc => rolAcc
  | .ill2B => ill2B
  | .ill33 => ill33
  | .sec => sec
  | .decAcc => decAcc
  | .ill3B => ill3B
  | .rti => rti
  | .ill42 => ill42
  | .ill43 => ill43
  | .ill44 => ill44
  | .pha => pha
  | .lsrAcc => lsrAcc
  | .ill4B => ill4B
  | .ill53 => ill53
  | .ill54 => ill54
  | .cli => cli
  | .phy => phy
  | .ill5B => ill5B
  | .ill5C => ill5C
  | .rts => rts
  | .ill62 => ill62
  | .ill63 => ill63
  | .pla => pla
  | .rorAcc => rorAcc
  | .ill6B => ill6B
  | .ill73 => ill73
  | .sei => sei
  | .ply => ply
  | .ill7B => ill7B
  | .ill82 => ill82
  | .ill83 => ill83
  | .dey => dey
  | .txa => txa
  | .ill8B => ill8B
  | .ill93 => ill93
  | .tya => tya
  | .txs => txs
  | .ill9B => ill9B
  | .illA3 => illA3
  | .tay => tay
  | .tax => tax
  | .illAB => illAB
  | .illB3 => illB3
  | .clv => clv
  | .tsx => tsx
  | .illBB => illBB
  | .illC2 => illC2
  | .illC3 => illC3
  | .iny => iny
  | .dex => dex
  | .wai => wai
  | .illD3 => illD3
  | .illD4 => illD4
  | .cld => cld
  | .phx => phx
  | .stp => stp
  | .illDC => illDC
  | .illE2 => illE2
  | .illE3 => illE3
  | .inx => inx
  | .nop => nop
  | .illEB => illEB
  | .illF3 => illF3
  | .illF4 => illF4
  | .sed => sed
  | .plx => plx
  | .illFB => illFB
  | .illFC => illFC

end Sys2Proof.Laws

namespace Sys2Proof

/-! ### An instruction and its opcode -/

/-- The count of operand bytes of an opcode is that of an instruction with this opcode. -/
theorem Instr.operandBytes_length (i : Instr) : i.operandBytes.length = opcodeOperandBytes i.opcode := by
  obtain ⟨-, hcount, -⟩ := Laws.OpcodeRow.all i
  exact hcount.symm

/-- The operation and the operand of an instruction are those of its opcode's entry with its bytes. -/
theorem Instr.form_eq (i : Instr) :
    i.form = (opcodeOperation i.opcode,
      (opcodeMode i.opcode).operand (i.operandBytes.getD 0 0) (i.operandBytes.getD 1 0)) := by
  obtain ⟨hrow, -, -⟩ := Laws.OpcodeRow.all i
  obtain ⟨-, hform, -⟩ := decodeOpcode_entry i.opcode (i.operandBytes.getD 0 0) (i.operandBytes.getD 1 0)
  rwa [hrow] at hform

/-- The operation of an instruction is that of its opcode. -/
theorem Instr.form_operation (i : Instr) : i.form.1 = opcodeOperation i.opcode := by
  rw [i.form_eq]

/-- The mode of an instruction is that of its opcode. -/
theorem Instr.form_mode (i : Instr) : i.form.2.mode = opcodeMode i.opcode := by
  rw [i.form_eq, Mode.operand_mode]

/-! ### The round trip (30_encoding.md R80, R81) -/

/-- The count of operand bytes of an opcode is that of its layout. -/
theorem opcodeOperandBytes_eq (op : Byte) : opcodeOperandBytes op = (opcodeLayout op).byteCount :=
  (decodeOpcode_entry op 0#8 0#8).2.2

/-- The decoder looks at no byte beyond the operand bytes of the opcode. -/
theorem decodeOpcode_congr (op : Byte) {b1 b2 c1 c2 : Byte} (h1 : 0 < opcodeOperandBytes op → b1 = c1)
    (h2 : 1 < opcodeOperandBytes op → b2 = c2) : decodeOpcode op b1 b2 = decodeOpcode op c1 c2 := by
  obtain ⟨hb0, hb1⟩ := decodeOpcode_unused op b1 b2
  obtain ⟨hc0, hc1⟩ := decodeOpcode_unused op c1 c2
  rw [opcodeOperandBytes_eq] at h1 h2
  cases hl : opcodeLayout op with
  | f0 => rw [hb0 hl, hc0 hl]
  | f1 => rw [hb1 hl, hc1 hl, h1 (by rw [hl]; decide)]
  | f2 => rw [h1 (by rw [hl]; decide), h2 (by rw [hl]; decide)]
  | f3 => rw [h1 (by rw [hl]; decide), h2 (by rw [hl]; decide)]

/-- Decoding an instruction's own operand bytes gives it, whatever follows them. -/
theorem decodeOpcode_operandBytes_append (i : Instr) (rest : List Byte) :
    decodeOpcode i.opcode ((i.operandBytes ++ rest).getD 0 0) ((i.operandBytes ++ rest).getD 1 0) = i := by
  obtain ⟨hrow, hcount, -⟩ := Laws.OpcodeRow.all i
  have hown : ∀ k, k < opcodeOperandBytes i.opcode →
      (i.operandBytes ++ rest).getD k 0 = i.operandBytes.getD k 0 := fun k hk =>
    List.getD_append _ _ _ _ (hcount ▸ hk)
  rw [decodeOpcode_congr i.opcode (hown 0) (hown 1), hrow]

/-- Settles O2: the decoder reads an instruction's own bytes as its row, and leaves what follows. -/
theorem decodeOfEncodeIsTheInstruction : Obligations.DecodeOfEncodeIsTheInstruction := by
  intro i rest
  obtain ⟨-, hcount, hwf⟩ := Laws.OpcodeRow.all i
  refine ⟨hwf, ?_⟩
  have henough : opcodeOperandBytes i.opcode ≤ (i.operandBytes ++ rest).length := by
    rw [List.length_append, hcount]
    exact Nat.le_add_right _ _
  rw [encode, List.cons_append, decode_cons_of_le henough, decodeOpcode_operandBytes_append,
    List.drop_left' hcount.symm]

/-- `hi({h, l})` is `h`. -/
@[simp] theorem hiByte_mkWord (h l : Byte) : hiByte (mkWord h l) = h := by
  apply BitVec.eq_of_toNat_eq
  rw [toNat_hiByte, toNat_mkWord]
  omega

/-- The bytes of a mode's operand are the first of the two bytes that it was made from. -/
theorem Mode.operand_bytes (m : Mode) (b1 b2 : Byte) :
    (m.operand b1 b2).bytes = [b1, b2].take m.byteCount := by
  cases m <;> simp [Mode.operand, Operand.bytes, Mode.byteCount, Mode.layout, Layout.byteCount]

/-- The operand bytes of a decoded instruction are those it was decoded from. -/
theorem decodeOpcode_operandBytes (op b1 b2 : Byte) :
    (decodeOpcode op b1 b2).operandBytes = [b1, b2].take (opcodeOperandBytes op) := by
  obtain ⟨hop, hform, hcount⟩ := decodeOpcode_entry op b1 b2
  rw [Instr.operandBytes, hform, hop]
  by_cases hill : (opcodeOperation op).isIll = true
  · simp [opcodeOperandBytes, hill, illegalOperandBytes]
  · rw [if_neg hill, hcount, Mode.operand_bytes]

/-- The first bytes of a list, at most two, read one by one. -/
theorem take_getD_pair {bs : List Byte} {n : Nat} (hn : n ≤ 2) (hlen : n ≤ bs.length) :
    [bs.getD 0 0, bs.getD 1 0].take n = bs.take n := by
  match bs, n with
  | _, 0 => rfl
  | _ :: _, 1 => rfl
  | _ :: _ :: _, 2 => rfl
  | [], n + 1 => exact absurd hlen (Nat.not_succ_le_zero n)
  | [_], n + 2 => simp at hlen
  | _, n + 3 => omega

/-- Settles O3: the operand bytes of what was decoded are the bytes that the decoder took. -/
theorem encodeOfDecodeIsTheBytes : Obligations.EncodeOfDecodeIsTheBytes := by
  intro bs i rest h
  cases bs with
  | nil => cases h
  | cons op tail =>
    by_cases hlen : opcodeOperandBytes op ≤ tail.length
    · rw [decode_cons_of_le hlen] at h
      cases h
      rw [encode, decodeOpcode_opcode, decodeOpcode_operandBytes,
        take_getD_pair (opcodeOperandBytes_le_two op) hlen, List.cons_append, List.take_append_drop]
    · rw [decode, if_pos (Nat.lt_of_not_le hlen)] at h
      cases h

/-- Settles O1: twelve evaluations of the decoder. -/
theorem decodeSanityWords : Obligations.DecodeSanityWords :=
  ⟨rfl, rfl, rfl, rfl, rfl, rfl, rfl, rfl, rfl, rfl, rfl, rfl⟩

/-! ### Base cycles and illegal opcodes (70_reset_and_hazards.md R289, 30_encoding.md R87) -/

/-- Settles O60, over the 256 opcode values: an instruction's operation and mode are those of its opcode. -/
theorem baseCycleCounts : Obligations.BaseCycleCounts := by
  intro i
  rw [i.form_operation, i.form_mode]
  generalize i.opcode = op
  revert op
  refine forall_byte (forall_nibble ⟨?_, ?_, ?_, ?_, ?_, ?_, ?_, ?_, ?_, ?_, ?_, ?_, ?_, ?_, ?_, ?_⟩) <;>
    refine forall_nibble ⟨?_, ?_, ?_, ?_, ?_, ?_, ?_, ?_, ?_, ?_, ?_, ?_, ?_, ?_, ?_, ?_⟩ <;>
    decide

/-- Settles O49: `exec` answers the state itself, and the entry of an illegal opcode has no operand bytes
and no cycles. -/
theorem illegalOpcodesDoNothing : Obligations.IllegalOpcodesDoNothing := by
  intro i m s h
  have hill : opcodeOperation i.opcode = .ill := by rw [← i.form_operation, h]
  refine ⟨Machine.exec_form h s, ?_, ?_⟩
  · rw [encode, Instr.operandBytes, h]
    rfl
  · rw [Machine.baseCycles, hill]
    rfl

end Sys2Proof
end

section
/-! What an instruction leaves unchanged (10_state.md R21 to R35, 20_memory.md R51 to R55). -/

namespace Sys2Proof.Machine

/-! ### The interrupt entry and return, field by field -/

section
variable (s : State) (vector : Word) (brk : Bool)

@[simp] theorem interrupt_oldPc : (interrupt vector brk s).oldPc = s.oldPc :=
  (congrArg State.oldPc (interrupt_noMem s vector brk) :)
@[simp] theorem interrupt_a : (interrupt vector brk s).a = s.a :=
  (congrArg State.a (interrupt_noMem s vector brk) :)
@[simp] theorem interrupt_x : (interrupt vector brk s).x = s.x :=
  (congrArg State.x (interrupt_noMem s vector brk) :)
@[simp] theorem interrupt_y : (interrupt vector brk s).y = s.y :=
  (congrArg State.y (interrupt_noMem s vector brk) :)
@[simp] theorem interrupt_sp : (interrupt vector brk s).sp = s.sp - 1#8 - 1#8 - 1#8 :=
  (congrArg State.sp (interrupt_noMem s vector brk) :)
@[simp] theorem interrupt_flags : (interrupt vector brk s).flags = s.flags.enterInterrupt :=
  (congrArg State.flags (interrupt_noMem s vector brk) :)
@[simp] theorem interrupt_stopped : (interrupt vector brk s).stopped = s.stopped :=
  (congrArg State.stopped (interrupt_noMem s vector brk) :)
@[simp] theorem interrupt_waiting : (interrupt vector brk s).waiting = s.waiting :=
  (congrArg State.waiting (interrupt_noMem s vector brk) :)
@[simp] theorem interrupt_pending : (interrupt vector brk s).pending = s.pending :=
  (congrArg State.pending (interrupt_noMem s vector brk) :)
@[simp] theorem interrupt_cycles : (interrupt vector brk s).cycles = s.cycles :=
  (congrArg State.cycles (interrupt_noMem s vector brk) :)
@[simp] theorem interrupt_intercepts : (interrupt vector brk s).intercepts = s.intercepts :=
  (congrArg State.intercepts (interrupt_noMem s vector brk) :)
@[simp] theorem interrupt_returned : (interrupt vector brk s).returned = s.returned :=
  (congrArg State.returned (interrupt_noMem s vector brk) :)
@[simp] theorem interrupt_hookAt (b : Word) : (interrupt vector brk s).hookAt b = s.hookAt b :=
  (congrArg (State.hookAt · b) (interrupt_noMem s vector brk) :)

@[simp] theorem returnFromInterrupt_oldPc : (returnFromInterrupt s).oldPc = s.oldPc :=
  (congrArg State.oldPc (returnFromInterrupt_noMem s) :)
@[simp] theorem returnFromInterrupt_a : (returnFromInterrupt s).a = s.a :=
  (congrArg State.a (returnFromInterrupt_noMem s) :)
@[simp] theorem returnFromInterrupt_x : (returnFromInterrupt s).x = s.x :=
  (congrArg State.x (returnFromInterrupt_noMem s) :)
@[simp] theorem returnFromInterrupt_y : (returnFromInterrupt s).y = s.y :=
  (congrArg State.y (returnFromInterrupt_noMem s) :)
@[simp] theorem returnFromInterrupt_sp : (returnFromInterrupt s).sp = s.sp + 1#8 + 1#8 + 1#8 :=
  (congrArg State.sp (returnFromInterrupt_noMem s) :)
@[simp] theorem returnFromInterrupt_stopped : (returnFromInterrupt s).stopped = s.stopped :=
  (congrArg State.stopped (returnFromInterrupt_noMem s) :)
@[simp] theorem returnFromInterrupt_waiting : (returnFromInterrupt s).waiting = s.waiting :=
  (congrArg State.waiting (returnFromInterrupt_noMem s) :)
@[simp] theorem returnFromInterrupt_pending : (returnFromInterrupt s).pending = s.pending :=
  (congrArg State.pending (returnFromInterrupt_noMem s) :)
@[simp] theorem returnFromInterrupt_cycles : (returnFromInterrupt s).cycles = s.cycles :=
  (congrArg State.cycles (returnFromInterrupt_noMem s) :)
@[simp] theorem returnFromInterrupt_intercepts : (returnFromInterrupt s).intercepts = s.intercepts :=
  (congrArg State.intercepts (returnFromInterrupt_noMem s) :)
@[simp] theorem returnFromInterrupt_returned : (returnFromInterrupt s).returned = s.returned :=
  (congrArg State.returned (returnFromInterrupt_noMem s) :)
@[simp] theorem returnFromInterrupt_hookAt (b : Word) : (returnFromInterrupt s).hookAt b = s.hookAt b :=
  (congrArg (State.hookAt · b) (returnFromInterrupt_noMem s) :)

end

/-! ### The stages of an instruction around its operation -/

/-- The operation stage of an operation in a mode (R100 stage 5). -/
def operOf (m : Operand) : Operation → Oper
  | .lda => opLda
  | .ldx => opLdx
  | .ldy => opLdy
  | .sta => opSta
  | .stx => opStx
  | .sty => opSty
  | .stz => opStz
  | .tax => opTax
  | .tay => opTay
  | .txa => opTxa
  | .tya => opTya
  | .tsx => opTsx
  | .txs => opTxs
  | .adc => opAdc
  | .sbc => opSbc
  | .cmp => opCmp
  | .cpx => opCpx
  | .cpy => opCpy
  | .inc => opInc
  | .dec => opDec
  | .inx => opInx
  | .iny => opIny
  | .dex => opDex
  | .dey => opDey
  | .and => opAnd
  | .ora => opOra
  | .eor => opEor
  | .bit => if m.mode = .imm then opBitImm else opBit
  | .asl => opAsl
  | .lsr => opLsr
  | .rol => opRol
  | .ror => opRor
  | .trb => opTrb
  | .tsb => opTsb
  | .rmb n => opRmb n.val
  | .smb n => opSmb n.val
  | .bcc => opBcc
  | .bcs => opBcs
  | .beq => opBeq
  | .bne => opBne
  | .bmi => opBmi
  | .bpl => opBpl
  | .bvc => opBvc
  | .bvs => opBvs
  | .bra => opBra
  | .bbr n => opBbr n.val m.displacement
  | .bbs n => opBbs n.val m.displacement
  | .jmp => opJmp
  | .jsr => opJsr
  | .rts => opRts
  | .pha => opPha
  | .php => opPhp
  | .phx => opPhx
  | .phy => opPhy
  | .pla => opPla
  | .plp => opPlp
  | .plx => opPlx
  | .ply => opPly
  | .clc => opClc
  | .cld => opCld
  | .cli => opCli
  | .clv => opClv
  | .sec => opSec
  | .sed => opSed
  | .sei => opSei
  | .nop => opNop
  | .brk => opBrk
  | .rti => opRti
  | .ill => opNop
  | .stp => opStp
  | .wai => opWai

/-- Whether an operation's addressing stage loads the operand: the stores do not (R103), nor do the jumps under
the default of `JUMP_TARGET_READ` (R112). -/
def loadsOperand : Operation → Bool
  | .sta | .stx | .sty | .stz => false
  | .jmp | .jsr => jumpTargetRead
  | _ => true

/-- The static write-back flag of an operation (30_encoding.md R89). -/
def writesStatically : Operation → Bool
  | .sta | .stx | .sty | .stz => true
  | _ => false

/-- Every instruction runs the stages around its operation; for an illegal opcode that is NOP's. -/
theorem runForm_eq_runStages {op : Operation} {m : Operand} (h : m.mode ∈ op.modes) (s : State) :
    runForm op m s
      = runStages (loadsOperand op) (writesStatically op) m.mode.byteCount (operOf m op) m s := by
  cases op
  case ill =>
    have hm : m = .imp := by cases m <;> simp [Operation.modes, Operand.mode] at h ⊢
    subst hm
    exact (runIllegal_eq 0#8 s).symm
  all_goals rfl

/-- `exec` as the stages around the instruction's operation (R100). -/
theorem exec_eq_runStages (i : Instr) (s : State) :
    exec i s = .next (runStages (loadsOperand i.form.1) (writesStatically i.form.1) i.form.2.mode.byteCount
      (operOf i.form.2 i.form.1) i.form.2 s) := by
  rw [exec_eq, runForm_eq_runStages (form_mode i)]

/-- A branch sets `PC` to its address or leaves it, and answers no write-back (R200). -/
theorem branch_eq (cond : Bool) (address : Word) (alu : Byte) (s : State) :
    branch cond address alu s
      = ⟨s.setPc (if cond then address else s.pc), 0#8, false, if cond then alu.toNat else 0⟩ := by
  cases cond <;> rfl

/-- A bit branch is a branch after the read of its displacement (R210, R211). -/
theorem bitBranch_eq (want : Bool) (n : Nat) (rel alu : Byte) (s : State) :
    bitBranch want n rel alu s
      = branch (decide (bitAt alu n = want)) (relativeTarget s.pc rel) (BitVec.ofNat 8 (branchCost s.pc rel))
          (memRead (s.pc - 1#16) s).2 := by
  have hcost : (BitVec.ofNat 8 (branchCost s.pc rel)).toNat = branchCost s.pc rel := by
    unfold branchCost pageCross
    split <;> rfl
  by_cases h : bitAt alu n = want <;> simp [bitBranch, branch, h, hcost]

/-- Which flags may differ after an operation: each only for the operations that the flag-writer table of
10_state.md R32 lists for it. -/
def FlagFrame (op : Operation) (m : Operand) (f g : Flags) : Prop :=
  (g.n ≠ f.n → op ∈ ([.lda, .ldx, .ldy, .tax, .tay, .txa, .tya, .tsx, .pla, .plx, .ply, .and, .ora, .eor,
    .asl, .lsr, .rol, .ror, .inc, .dec, .inx, .iny, .dex, .dey, .adc, .sbc, .cmp, .cpx,
    .cpy, .bit, .plp, .rti] : List Operation)) ∧
  (g.v ≠ f.v → op ∈ ([.adc, .sbc, .bit, .clv, .plp, .rti] : List Operation) ∧ (op = .bit → m.mode ≠ .imm)) ∧
  (g.d ≠ f.d → op ∈ ([.sed, .cld, .plp, .rti, .brk] : List Operation)) ∧
  (g.i ≠ f.i → op ∈ ([.sei, .cli, .plp, .rti, .brk] : List Operation)) ∧
  (g.z ≠ f.z → op ∈ ([.lda, .ldx, .ldy, .tax, .tay, .txa, .tya, .tsx, .pla, .plx, .ply, .and, .ora, .eor,
    .asl, .lsr, .rol, .ror, .inc, .dec, .inx, .iny, .dex, .dey, .adc, .sbc, .cmp, .cpx,
    .cpy, .bit, .trb, .tsb, .plp, .rti] : List Operation)) ∧
  (g.c ≠ f.c → op ∈ ([.adc, .sbc, .cmp, .cpx, .cpy, .asl, .lsr, .rol, .ror, .sec, .clc, .plp, .rti] :
    List Operation))

/-- Which registers and control bits may differ after an operation stage (10_state.md R21 to R26, R33, R34). -/
def RegisterFrame (op : Operation) (t u : State) : Prop :=
  (u.a ≠ t.a → op ∈ ([.lda, .txa, .tya, .pla, .adc, .sbc, .and, .ora, .eor] : List Operation)) ∧
  (u.x ≠ t.x → op ∈ ([.ldx, .tax, .tsx, .plx, .inx, .dex] : List Operation)) ∧
  (u.y ≠ t.y → op ∈ ([.ldy, .tay, .ply, .iny, .dey] : List Operation)) ∧
  (u.sp ≠ t.sp → op ∈ ([.txs, .pha, .php, .phx, .phy, .pla, .plp, .plx, .ply, .jsr, .rts, .brk,
    .rti] : List Operation)) ∧
  (u.pc ≠ t.pc → op ∈ ([.bcc, .bcs, .beq, .bne, .bmi, .bpl, .bvc, .bvs, .bra, .jmp, .jsr, .rts, .brk,
    .rti] : List Operation) ∨ (∃ n, op = .bbr n) ∨ (∃ n, op = .bbs n)) ∧
  (u.stopped ≠ t.stopped → op = .stp) ∧ (u.waiting ≠ t.waiting → op = .wai) ∧
  u.oldPc = t.oldPc ∧ u.pending = t.pending ∧ u.intercepts = t.intercepts ∧ u.returned = t.returned

/-- The operations that store to their operand: the stores, and the read-modify-write operations. -/
def StoresOperand (op : Operation) : Prop :=
  op ∈ ([.sta, .stx, .sty, .stz, .asl, .lsr, .rol, .ror, .inc, .dec, .trb, .tsb] : List Operation) ∨
    (∃ n, op = .rmb n) ∨ (∃ n, op = .smb n)

/-- What each operation leaves to the stages around it: `cycles` as they were, extra cycles only from a branch,
a write-back only from an operation that stores to its operand. -/
def StageFrame (op : Operation) (t : State) (o : Operated) : Prop :=
  o.state.cycles = t.cycles ∧ (o.extra ≠ 0 → op.modes = [.rel] ∨ op.modes = [.zpr]) ∧
  (o.wb = true → StoresOperand op)

/-- What an operation changes, operation by operation. -/
theorem operOf_frame (op : Operation) (m : Operand) (address : Word) (alu : Byte) (t : State) :
    let o := operOf m op address alu t
    FlagFrame op m t.flags o.state.flags ∧ RegisterFrame op t o.state ∧ StageFrame op t o := by
  intro o
  cases op
  case bit =>
    by_cases hm : m.mode = .imm <;>
      simp [o, operOf, hm, FlagFrame, RegisterFrame, StageFrame, opBit, opBitImm, Operated.done]
  all_goals simp [o, FlagFrame, RegisterFrame, StageFrame, StoresOperand, operOf, opLda, opLdx, opLdy, opSta,
    opStx, opSty, opStz, opTax, opTay, opTxa, opTya, opTsx, opTxs, opAdc, opSbc, opCmp, opCpx, opCpy, opInc, opDec,
    opInx, opIny, opDex, opDey, opAnd, opOra,
    opEor, opAsl, opLsr, opRol, opRor, opTrb, opTsb, opRmb, opSmb, opBcc, opBcs, opBeq, opBne, opBmi, opBpl,
    opBvc, opBvs, opBra, opBbr, opBbs, opJmp, opJsr, opRts, opPha, opPhp, opPhx, opPhy, opPla, opPlp, opPlx,
    opPly, opClc, opCld, opCli, opClv, opSec, opSed, opSei, opNop, opBrk, opRti, opStp, opWai,
    Operated.done, Operated.back, branch_eq, bitBranch_eq, Flags.enterInterrupt, Operation.modes]

end Sys2Proof.Machine
end

section
/-! The statements on registers, flags and cycles (10_state.md R21 to R34, 70_reset_and_hazards.md R288). -/

namespace Sys2Proof.Machine

/-! ### What an instruction changes beside memory -/

/-- What the operation stage of an instruction leaves: its operation on what its addressing stage left. -/
def operated (i : Instr) (s : State) : Operated :=
  operOf i.form.2 i.form.1 (resolve (loadsOperand i.form.1) i.form.2 s).address
    (resolve (loadsOperand i.form.1) i.form.2 s).alu (afterMode (loadsOperand i.form.1) i.form.2 s)

/-- What the operation stage of an instruction may change: the addressing stage before it moves `PC` past the
operand bytes and leaves the other registers and the flags. -/
theorem operated_frame (i : Instr) (s : State) :
    FlagFrame i.form.1 i.form.2 s.flags (operated i s).state.flags ∧
      RegisterFrame i.form.1 (s.setPc (s.pc + BitVec.ofNat 16 i.form.2.mode.byteCount)) (operated i s).state ∧
      StageFrame i.form.1 (s.addCycles (resolve (loadsOperand i.form.1) i.form.2 s).extra) (operated i s) := by
  obtain ⟨hflags, hregs, hstage⟩ := operOf_frame i.form.1 i.form.2
    (resolve (loadsOperand i.form.1) i.form.2 s).address (resolve (loadsOperand i.form.1) i.form.2 s).alu
    (afterMode (loadsOperand i.form.1) i.form.2 s)
  have hregs : RegisterFrame i.form.1 (afterMode (loadsOperand i.form.1) i.form.2 s).noMem (operated i s).state := hregs
  have hstage : StageFrame i.form.1 (afterMode (loadsOperand i.form.1) i.form.2 s).noMem (operated i s) := hstage
  rw [afterMode_flags] at hflags
  rw [afterMode_noMem] at hregs hstage
  exact ⟨hflags, hregs, hstage⟩

section
variable {i : Instr} {s t : State}

/-- An instruction leaves, memory apart, what its operation stage left, with the operation's extra cycles
counted, and in mode ACC the byte of a write-back in `A` (R100, R104). -/
theorem exec_noMem (h : exec i s = .next t) : t.noMem =
    if (writesStatically i.form.1 || (operated i s).wb) = true ∧ i.form.2.mode = .acc then
      ((operated i s).state.noMem.addCycles (operated i s).extra).setA (operated i s).alu
    else (operated i s).state.noMem.addCycles (operated i s).extra := by
  rw [exec_eq_runStages] at h
  cases h
  exact runStages_noMem _ _ _ _ _ _

/-- A projection that no memory access, write-back to `A` and count of cycles changes is the one that the
operation stage left. -/
theorem exec_get {α : Type} (f : State → α) (hmem : ∀ u : State, f u.noMem = f u)
    (ha : ∀ (u : State) (v : Byte), f (u.setA v) = f u) (hc : ∀ (u : State) (k : Nat), f (u.addCycles k) = f u)
    (h : exec i s = .next t) : f t = f (operated i s).state := by
  rw [← hmem, exec_noMem h]
  split
  · rw [ha, hc, hmem]
  · rw [hc, hmem]

/-- The accumulator after an instruction: what the operation left, or the byte written back in mode ACC. -/
theorem exec_a (h : exec i s = .next t) : t.a = (operated i s).state.a ∨
    ((writesStatically i.form.1 || (operated i s).wb) = true ∧ i.form.2.mode = .acc) := by
  have ht := congrArg State.a (exec_noMem h)
  split at ht
  case isTrue hacc => exact .inr hacc
  case isFalse =>
    rw [noMem_a, State.addCycles_a, noMem_a] at ht
    exact .inl ht

/-- The cycles after an instruction: those the operation left and its own extra (R100). -/
theorem exec_cycles (h : exec i s = .next t) : t.cycles = (operated i s).state.cycles + (operated i s).extra := by
  have ht := congrArg State.cycles (exec_noMem h)
  split at ht <;> simpa using ht

end

/-! ### Flags and registers (10_state.md R21 to R34) -/

/-- Settles O13: the operation writes the flags, and no other stage does. -/
theorem flagsChangeOnlyByTheirWriters : Obligations.FlagsChangeOnlyByTheirWriters := by
  intro i s t h
  obtain ⟨hflags, -, -⟩ := operated_frame i s
  rw [exec_get State.flags (fun _ => rfl) (fun _ _ => rfl) (fun _ _ => rfl) h]
  exact hflags

/-- The count of operand bytes of an instruction is that of its mode. -/
theorem encode_tail_length (i : Instr) : (encode i).tail.length = i.form.2.mode.byteCount := by
  obtain ⟨-, -, hcount⟩ := decodeOpcode_entry i.opcode 0#8 0#8
  rw [encode, List.tail_cons, i.operandBytes_length, hcount, i.form_mode]

/-- An instruction with a write-back, static or its operation's own, stores to its operand. -/
theorem storesOperand_of_writesBack {i : Instr} {s : State}
    (h : (writesStatically i.form.1 || (operated i s).wb) = true) : StoresOperand i.form.1 := by
  obtain ⟨-, -, -, -, hown⟩ := operated_frame i s
  rcases Bool.or_eq_true_iff.mp h with hstatic | hwb
  · generalize i.form.1 = op at hstatic
    cases op
    case sta | stx | sty | stz => exact .inl (by decide)
    all_goals cases hstatic
  · exact hown hwb

/-- Of the operations that store to their operand the shifts, rotates, INC and DEC have a form with mode ACC. -/
theorem mem_of_storesOperand_acc {op : Operation} (h : StoresOperand op) (hacc : Mode.acc ∈ op.modes) :
    op ∈ ([.asl, .lsr, .rol, .ror, .inc, .dec] : List Operation) := by
  cases op
  case asl | lsr | rol | ror | inc | dec => decide
  all_goals simp [Operation.modes, StoresOperand] at h hacc

/-- Settles O14: what the operation leaves, and the write-back of mode ACC. -/
theorem registersChangeOnlyByTheirWriters : Obligations.RegistersChangeOnlyByTheirWriters := by
  intro i s t h
  obtain ⟨-, ⟨ha, hx, hy, hsp, hpc, hstopped, hwaiting, hhost⟩, -⟩ := operated_frame i s
  rw [encode_tail_length,
    exec_get State.x (fun _ => rfl) (fun _ _ => rfl) (fun _ _ => rfl) h,
    exec_get State.y (fun _ => rfl) (fun _ _ => rfl) (fun _ _ => rfl) h,
    exec_get State.sp (fun _ => rfl) (fun _ _ => rfl) (fun _ _ => rfl) h,
    exec_get State.pc (fun _ => rfl) (fun _ _ => rfl) (fun _ _ => rfl) h,
    exec_get State.stopped (fun _ => rfl) (fun _ _ => rfl) (fun _ _ => rfl) h,
    exec_get State.waiting (fun _ => rfl) (fun _ _ => rfl) (fun _ _ => rfl) h,
    exec_get State.oldPc (fun _ => rfl) (fun _ _ => rfl) (fun _ _ => rfl) h,
    exec_get State.pending (fun _ => rfl) (fun _ _ => rfl) (fun _ _ => rfl) h,
    exec_get State.intercepts (fun _ => rfl) (fun _ _ => rfl) (fun _ _ => rfl) h,
    exec_get State.returned (fun _ => rfl) (fun _ _ => rfl) (fun _ _ => rfl) h]
  refine ⟨fun hne => ?_, hx, hy, hsp, hpc, hstopped, hwaiting, hhost⟩
  obtain hkept | ⟨hback, hacc⟩ := exec_a h
  · exact .inl (ha (hkept ▸ hne))
  · exact .inr ⟨mem_of_storesOperand_acc (storesOperand_of_writesBack hback) (hacc ▸ form_mode i), hacc⟩

/-! ### Extra cycles (70_reset_and_hazards.md R288) -/

/-- The extra cycles of a mode do not depend on the operand load: its pointer is read before. -/
theorem resolve_extra_eq (load load' : Bool) (m : Operand) (s : State) :
    (resolve load m s).extra = (resolve load' m s).extra := by
  cases m <;> simp [resolve]

/-- A mode without an index added to an address costs no cycle. -/
theorem resolve_extra_eq_zero (load : Bool) {m : Operand} (s : State) (hx : m.mode ≠ .abx) (hy : m.mode ≠ .aby)
    (hiy : m.mode ≠ .izy) : (resolve load m s).extra = 0 := by
  cases m
  case abx => exact absurd rfl hx
  case aby => exact absurd rfl hy
  case izy => exact absurd rfl hiy
  all_goals simp [resolve]

/-- (zp),Y costs a cycle when the pointer's low byte plus `Y` exceeds 100 hexadecimal (R117). -/
theorem resolve_izy_extra (load : Bool) (z : Byte) {s : State} (h0 : s.hookAt (zeroExt z) = none)
    (h1 : s.hookAt (zeroExt (z + 1#8)) = none) :
    (resolve load (.izy z) s).extra = if 0x100 < (s.byteAt (zeroExt z)).toNat + s.y.toNat then 1 else 0 := by
  simp [resolve, zeroPagePointer_unbound h0 h1]

/-- Settles O18: an operation adds cycles only in a branch's mode, and a mode only for its index. -/
theorem extraCyclesOfAnInstruction : Obligations.ExtraCyclesOfAnInstruction := by
  refine ⟨fun i s hrel hzpr => ⟨_, exec_eq i s, ?_⟩, fun load m s => resolve_extra_eq_zero load s,
    fun load w s => ⟨?_, ?_⟩, fun load z s => resolve_izy_extra load z⟩
  · obtain ⟨-, -, hcycles, hextra, -⟩ := operated_frame i s
    have hmode := form_mode i
    have hnone : (operated i s).extra = 0 := by
      by_contra hne
      obtain hmodes | hmodes := hextra hne <;> rw [hmodes, List.mem_singleton] at hmode
      · exact hrel hmode
      · exact hzpr hmode
    rw [exec_cycles (exec_eq i s), hcycles, hnone, Nat.add_zero, State.addCycles_cycles,
      resolve_extra_eq true (loadsOperand i.form.1)]
  · rw [resolve_absoluteIndexed (.inl ⟨rfl, rfl⟩), operandAt_extra, pageCross_eq, toNat_add_zeroExt]
  · rw [resolve_absoluteIndexed (.inr ⟨rfl, rfl⟩), operandAt_extra, pageCross_eq, toNat_add_zeroExt]

end Sys2Proof.Machine
end

section
/-! The statements on what memory an instruction and a step may change (20_memory.md R51 to R55), and on the
invariant between steps (10_state.md R35, R39, R40). -/

namespace Sys2Proof.Machine

/-! ### Bytes that an access leaves -/

/-- What is bound is no device's hook: it is nothing, or a read-only region (20_memory.md R51, R55). -/
def NoDevice (h : Option Hook) : Prop := ∀ id : Nat, h ≠ some (.oracle id)

/-- The two kinds of binding that are no device. -/
theorem noDevice_iff {h : Option Hook} : NoDevice h ↔ h = none ∨ h = some .rom := by
  constructor
  · intro hd
    match h with
    | none => exact .inl rfl
    | some .rom => exact .inr rfl
    | some (.oracle id) => exact absurd rfl (hd id)
  · rintro (rfl | rfl) id <;> simp

/-- A read where no device is bound returns Memory's byte and changes nothing (R52, log 8). -/
theorem memRead_noDevice {s : State} {a : Word} (h : NoDevice (s.hookAt a)) : memRead a s = (s.byteAt a, s) := by
  obtain h | h := noDevice_iff.mp h
  · exact memRead_unbound h
  · exact memRead_rom h

section
variable {s : State} {b : Word}

/-- A read changes only the byte at its own address, and that only where a device is bound. -/
theorem memRead_byteAt (a : Word) (h : NoDevice (s.hookAt b) ∨ b ≠ a) : (memRead a s).2.byteAt b = s.byteAt b := by
  by_cases hb : b = a
  · subst hb
    rw [memRead_noDevice (h.resolve_right (absurd rfl))]
  · exact memRead_byteAt_other s hb

theorem memRead16_byteAt (a : Word) (h : NoDevice (s.hookAt b) ∨ (b ≠ a ∧ b ≠ a + 1#16)) :
    (memRead16 a s).2.byteAt b = s.byteAt b := by
  rw [memRead16, memRead_byteAt _ (by rw [memRead_hookAt]; exact h.imp_right And.right),
    memRead_byteAt _ (h.imp_right And.left)]

/-- Where no device is bound a write changes only the byte at its own address, and not in a read-only region. -/
theorem memWrite_byteAt {a : Word} (v : Byte) (h : NoDevice (s.hookAt b)) (hb : s.hookAt b = none → b ≠ a) :
    (memWrite a v s).byteAt b = s.byteAt b := by
  obtain hn | hr := noDevice_iff.mp h
  · exact memWrite_byteAt_other s v (hb hn)
  · by_cases hba : b = a
    · rw [memWrite_rom v (hba ▸ hr)]
    · exact memWrite_byteAt_other s v hba

theorem push_byteAt (v : Byte) (h : NoDevice (s.hookAt b)) (hb : s.hookAt b = none → b ≠ stackSlot s.sp) :
    (push v s).byteAt b = s.byteAt b :=
  memWrite_byteAt v h hb

theorem pop_byteAt (h : NoDevice (s.hookAt b)) : (pop s).2.byteAt b = s.byteAt b :=
  memRead_byteAt (s := s.setSp (s.sp + 1#8)) _ (.inl h)

theorem push16_byteAt (w : Word) (h : NoDevice (s.hookAt b))
    (hb : s.hookAt b = none → b ≠ stackSlot s.sp ∧ b ≠ stackSlot (s.sp - 1#8)) :
    (push16 w s).byteAt b = s.byteAt b := by
  rw [push16, push_byteAt (s := push (hiByte w) s) _ (by rwa [push_hookAt]) (by simpa using fun hn => (hb hn).2),
    push_byteAt _ h fun hn => (hb hn).1]

theorem pop16_byteAt (h : NoDevice (s.hookAt b)) : (pop16 s).2.byteAt b = s.byteAt b := by
  rw [pop16, pop_byteAt (by rwa [pop_hookAt]), pop_byteAt h]

/-- An interrupt entry changes no byte but those of its frame, where no device is bound (R253). -/
theorem interrupt_byteAt (vector : Word) (brk : Bool) (h : NoDevice (s.hookAt b))
    (hb : s.hookAt b = none →
      b ≠ stackSlot s.sp ∧ b ≠ stackSlot (s.sp - 1#8) ∧ b ≠ stackSlot (s.sp - 1#8 - 1#8)) :
    (interrupt vector brk s).byteAt b = s.byteAt b := by
  rw [interrupt, State.setFlags_byteAt, State.setPc_byteAt,
    memRead16_byteAt _ (.inl (by simpa using h)),
    push_byteAt _ (by simpa using h) (by simpa using fun hn => (hb hn).2.2),
    push16_byteAt _ h fun hn => ⟨(hb hn).1, (hb hn).2.1⟩]

theorem returnFromInterrupt_byteAt (h : NoDevice (s.hookAt b)) :
    (returnFromInterrupt s).byteAt b = s.byteAt b := by
  rw [returnFromInterrupt, State.setPc_byteAt, pop16_byteAt (by simpa using h), State.setFlags_byteAt, pop_byteAt h]

/-- The interrupt check changes no byte of a read-only region (R254). -/
theorem irqCheck_byteAt_rom (h : s.hookAt b = some .rom) : (irqCheck s).byteAt b = s.byteAt b := by
  have hbound : s.hookAt b ≠ none := by rw [h]; simp
  obtain e | ⟨-, -, -, e⟩ | ⟨-, -, e⟩ := irqCheck_cases s <;> rw [e]
  · rfl
  · exact interrupt_byteAt irqVector false (noDevice_iff.mpr (.inr h)) fun hn => absurd hn hbound

/-! ### The addressing stage (40_engine_and_addressing.md R105 to R121) -/

theorem operandAt_byteAt (load : Bool) (a : Word) (extra : Nat) (h : NoDevice (s.hookAt b) ∨ b ≠ a) :
    (operandAt load a extra s).state.byteAt b = s.byteAt b := by
  cases load
  · rfl
  · exact memRead_byteAt a h

theorem zeroPagePointer_byteAt (z : Byte) (h : NoDevice (s.hookAt b) ∨ (b ≠ zeroExt z ∧ b ≠ zeroExt (z + 1#8))) :
    (zeroPagePointer z s).2.byteAt b = s.byteAt b := by
  rw [zeroPagePointer, memRead_byteAt _ (by rw [memRead_hookAt]; exact h.imp_right And.right),
    memRead_byteAt _ (h.imp_right And.left)]

theorem samePagePointer_byteAt (ptr : Word)
    (h : NoDevice (s.hookAt b) ∨ (b ≠ ptr ∧ b ≠ mkWord (hiByte ptr) (loByte ptr + 1#8))) :
    (samePagePointer ptr s).2.byteAt b = s.byteAt b := by
  rw [samePagePointer, memRead_byteAt _ (by rw [memRead_hookAt]; exact h.imp_right And.right),
    memRead_byteAt _ (h.imp_right And.left)]

@[simp] theorem zeroPagePointer_hookAt (z : Byte) : (zeroPagePointer z s).2.hookAt b = s.hookAt b := by
  simp [zeroPagePointer]

@[simp] theorem samePagePointer_hookAt (ptr : Word) : (samePagePointer ptr s).2.hookAt b = s.hookAt b := by
  simp [samePagePointer]

/-- A mode changes only the bytes it reads, and those only where a device is bound. -/
theorem resolve_byteAt (load : Bool) (m : Operand)
    (h : NoDevice (s.hookAt b) ∨ (b ∉ pointerReads m s ∧ b ≠ (resolve load m s).address)) :
    (resolve load m s).state.byteAt b = s.byteAt b := by
  cases m
  case imp | acc | imm | rel => rfl
  case zp | zpx | zpy | abs | abx | aby | zpr =>
    simp only [resolve, operandAt_address] at h ⊢
    exact operandAt_byteAt _ _ _ (h.imp_right And.right)
  case izx | izy | izp =>
    simp only [resolve, operandAt_address, pointerReads, List.mem_cons, List.not_mem_nil, or_false, not_or] at h ⊢
    rw [operandAt_byteAt _ _ _ (by rw [zeroPagePointer_hookAt]; exact h.imp_right And.right),
      zeroPagePointer_byteAt _ (h.imp_right And.left)]
  case ind =>
    simp only [resolve, operandAt_address, pointerReads, List.mem_cons, List.not_mem_nil, or_false, not_or] at h ⊢
    rw [operandAt_byteAt _ _ _ (by rw [samePagePointer_hookAt]; exact h.imp_right And.right),
      samePagePointer_byteAt _ (h.imp_right And.left)]
  case iax =>
    simp only [resolve, operandAt_address, pointerReads, List.mem_cons, List.not_mem_nil, or_false, not_or] at h ⊢
    rw [operandAt_byteAt _ _ _ (by rw [memRead16_hookAt]; exact h.imp_right And.right),
      memRead16_byteAt _ (h.imp_right And.left)]

/-- Settles O16: a mode's accesses are the reads of its pointer and of its operand. -/
theorem addressingStageIsPure : Obligations.AddressingStageIsPure :=
  fun load m s => ⟨resolve_noMem s load m, fun _ h => resolve_byteAt load m h⟩

/-- The effective address of a mode does not depend on the operand load: its pointer is read before. -/
theorem resolve_address_eq (load load' : Bool) (m : Operand) (s : State) :
    (resolve load m s).address = (resolve load' m s).address := by
  cases m <;> simp [resolve]

/-- The write-back stage stores at the effective address or nowhere, and not in mode ACC (R104). -/
theorem writeBack_byteAt (m : Mode) {address : Word} (alu : Byte) (h : NoDevice (s.hookAt b))
    (hb : s.hookAt b = none → m ≠ .acc → b ≠ address) : (writeBack m address alu s).byteAt b = s.byteAt b := by
  cases m
  case acc | imm | imp | rel | zpr | ind => rfl
  all_goals exact memWrite_byteAt alu h fun hn => hb hn (by decide)

end

/-! ### The accesses of an operation -/

/-- What memory an operation leaves: that of the state before it, after one read, or after one of the stack's
sequences. -/
inductive OperAccess (op : Operation) (t : State) : State → Prop where
  | nothing : OperAccess op t t
  | read (a : Word) : OperAccess op t (memRead a t).2
  | push (v : Byte) : op ∈ ([.pha, .php, .phx, .phy] : List Operation) → OperAccess op t (push v t)
  | pop : OperAccess op t (pop t).2
  | call (w : Word) : op = .jsr → OperAccess op t (push16 w t)
  | ret : OperAccess op t (pop16 t).2
  | entry (pc : Word) : op = .brk → OperAccess op t (interrupt irqVector true (t.setPc pc))
  | returnFromInterrupt : OperAccess op t (returnFromInterrupt t)

/-- The memory each operation leaves, operation by operation. -/
theorem operOf_access (op : Operation) (m : Operand) (address : Word) (alu : Byte) (t : State) :
    ∃ w, OperAccess op t w ∧ (operOf m op address alu t).state.mem = w.mem := by
  cases op
  case bit =>
    refine ⟨t, .nothing, ?_⟩
    simp only [operOf]
    split <;> rfl
  case bcc | bcs | beq | bne | bmi | bpl | bvc | bvs | bra => exact ⟨t, .nothing, by simp [operOf, branch_eq,
    opBcc, opBcs, opBeq, opBne, opBmi, opBpl, opBvc, opBvs, opBra]⟩
  case bbr | bbs => exact ⟨_, .read _, by simp [operOf, opBbr, opBbs, bitBranch_eq, branch_eq]; rfl⟩
  case pha | php | phx | phy => exact ⟨_, .push _ (by decide), rfl⟩
  case pla | plp | plx | ply => exact ⟨_, .pop, rfl⟩
  case jsr => exact ⟨_, .call _ rfl, rfl⟩
  case rts => exact ⟨_, .ret, rfl⟩
  case brk => exact ⟨_, .entry _ rfl, rfl⟩
  case rti => exact ⟨_, .returnFromInterrupt, rfl⟩
  all_goals exact ⟨t, .nothing, rfl⟩

/-- The stack slots that an operation writes, with the stack pointer it starts from (R125, R127, R253). -/
def stackStores (op : Operation) (sp : Byte) : List Word :=
  match op with
  | .pha | .php | .phx | .phy => [stackSlot sp]
  | .jsr => [stackSlot sp, stackSlot (sp - 1#8)]
  | .brk => [stackSlot sp, stackSlot (sp - 1#8), stackSlot (sp - 2#8)]
  | _ => []

/-- Two steps down of the stack pointer. -/
theorem sp_sub_two (sp : Byte) : sp - 1#8 - 1#8 = sp - 2#8 := by
  bv_omega

section
variable {op : Operation} {t w : State}

theorem OperAccess.wf (h : OperAccess op t w) (hm : Memory.wf t.mem = true) : Memory.wf w.mem = true := by
  cases h with
  | nothing => exact hm
  | read a => exact memRead_wf a hm
  | push v _ => exact push_wf v hm
  | pop => exact pop_wf hm
  | call a _ => exact push16_wf a hm
  | ret => exact pop16_wf hm
  | entry _ _ => exact interrupt_wf _ _ hm
  | returnFromInterrupt => exact returnFromInterrupt_wf hm

/-- An operation changes no byte but in its stack slots, where no device is bound. -/
theorem OperAccess.byteAt {b : Word} (h : OperAccess op t w) (hd : NoDevice (t.hookAt b))
    (hb : t.hookAt b = none → b ∉ stackStores op t.sp) : w.byteAt b = t.byteAt b := by
  cases h with
  | nothing => rfl
  | read a => exact memRead_byteAt a (.inl hd)
  | push v hop =>
    refine push_byteAt v hd fun hn => ?_
    have hslot := hb hn
    simp only [List.mem_cons, List.not_mem_nil, or_false] at hop
    obtain rfl | rfl | rfl | rfl := hop <;> simpa [stackStores] using hslot
  | pop => exact pop_byteAt hd
  | call a hop =>
    subst hop
    exact push16_byteAt a hd fun hn => by simpa [stackStores] using hb hn
  | ret => exact pop16_byteAt hd
  | entry pc hop =>
    subst hop
    exact interrupt_byteAt (s := t.setPc pc) irqVector true hd fun hn => by
      simpa [stackStores, sp_sub_two] using hb hn
  | returnFromInterrupt => exact returnFromInterrupt_byteAt hd

end

/-! ### The memory an instruction leaves -/

section
variable {i : Instr} {s t : State}

/-- An instruction keeps the canonical form of memory. -/
theorem exec_wf (h : exec i s = .next t) (hm : Memory.wf s.mem = true) : Memory.wf t.mem = true := by
  rw [exec_eq_runStages] at h
  cases h
  refine runStages_wf _ _ _ _ _ (fun address alu u hu => ?_) hm
  obtain ⟨w, hw, hmem⟩ := operOf_access i.form.1 i.form.2 address alu u
  exact hmem ▸ hw.wf hu

/-- What an instruction answers: what its operation stage left, with the operation's extra cycles counted, and
after a write-back if there is one (R100 stage 6). -/
theorem exec_stages (h : exec i s = .next t) :
    t = (operated i s).state.addCycles (operated i s).extra ∨
      ((writesStatically i.form.1 || (operated i s).wb) = true ∧
        t = writeBack i.form.2.mode (resolve (loadsOperand i.form.1) i.form.2 s).address (operated i s).alu
          ((operated i s).state.addCycles (operated i s).extra)) := by
  rw [exec_eq_runStages] at h
  cases h
  by_cases hwb : (writesStatically i.form.1 || (operated i s).wb) = true
  · exact .inr ⟨hwb, if_pos hwb⟩
  · exact .inl (if_neg hwb)

/-- An instruction changes no byte but in its stack slots and at its effective address, where no device is
bound. -/
theorem exec_byteAt {b : Word} (h : exec i s = .next t) (hd : NoDevice (s.hookAt b))
    (hb : s.hookAt b = none → b ∉ stackStores i.form.1 s.sp ∧
      (StoresOperand i.form.1 → i.form.2.mode ≠ .acc → b ≠ (resolve false i.form.2 s).address)) :
    t.byteAt b = s.byteAt b := by
  obtain ⟨w, hw, hmem⟩ := operOf_access i.form.1 i.form.2
    (resolve (loadsOperand i.form.1) i.form.2 s).address (resolve (loadsOperand i.form.1) i.form.2 s).alu
    (afterMode (loadsOperand i.form.1) i.form.2 s)
  have hoper : (operated i s).state.byteAt b = s.byteAt b := calc
    _ = w.byteAt b := congrArg (memGet · b.toNat) hmem
    _ = (afterMode (loadsOperand i.form.1) i.form.2 s).byteAt b :=
      hw.byteAt (by simpa using hd) (by simpa using fun hn => (hb hn).1)
    _ = s.byteAt b := resolve_byteAt _ _ (.inl hd)
  have hhook : (operated i s).state.hookAt b = s.hookAt b := by
    obtain ⟨-, ⟨-, -, -, -, -, -, -, -, -, hints, -⟩, -⟩ := operated_frame i s
    exact congrArg (hookGet · b.toNat) hints
  obtain rfl | ⟨hwb, rfl⟩ := exec_stages h
  · exact hoper
  · rw [writeBack_byteAt, State.addCycles_byteAt, hoper]
    · rwa [State.addCycles_hookAt, hhook]
    · intro hn hacc
      rw [State.addCycles_hookAt, hhook] at hn
      rw [resolve_address_eq _ false]
      exact (hb hn).2 (storesOperand_of_writesBack hwb) hacc

end

/-- Settles O15: beside device hooks an instruction stores at its effective address or in its stack slots. -/
theorem memoryChangesOnlyWhereStored : Obligations.MemoryChangesOnlyWhereStored := by
  intro i s t b h hd hne
  obtain ⟨hnone, hstored⟩ : s.hookAt b = none ∧ ¬ (b ∉ stackStores i.form.1 s.sp ∧
      (StoresOperand i.form.1 → i.form.2.mode ≠ .acc → b ≠ (resolve false i.form.2 s).address)) :=
    Classical.not_imp.mp fun hkept => hne (exec_byteAt h hd hkept)
  refine ⟨hnone, ?_⟩
  by_cases hslot : b ∈ stackStores i.form.1 s.sp
  · right
    generalize i.form.1 = op at hslot ⊢
    cases op
    case pha | php | phx | phy => exact .inl ⟨by decide, by simpa [stackStores] using hslot⟩
    case jsr => exact .inr (.inl ⟨rfl, by simpa [stackStores] using hslot⟩)
    case brk => exact .inr (.inr ⟨rfl, by simpa [stackStores] using hslot⟩)
    all_goals simp [stackStores] at hslot
  · left
    simp only [hslot, not_false_eq_true, true_and, not_forall, not_not] at hstored
    obtain ⟨hstores, hacc, haddr⟩ := hstored
    exact ⟨hstores, hacc, haddr⟩

/-! ### Steps -/

/-- The fetch changes no byte where no device is bound. -/
theorem fetch_byteAt {s : State} {b : Word} (h : NoDevice (s.hookAt b)) : (fetch s).2.byteAt b = s.byteAt b := by
  have hopcode : (fetchOpcode s).2.byteAt b = s.byteAt b := memRead_byteAt (s := s.setOldPc s.pc) _ (.inl h)
  have hhook : (fetchOpcode s).2.hookAt b = s.hookAt b := (congrArg (State.hookAt · b) (fetchOpcode_noMem s) :)
  unfold fetch
  dsimp only
  split
  · exact hopcode
  · rw [memRead_byteAt _ (.inl (by rwa [hhook])), hopcode]
  · rw [memRead_byteAt _ (.inl (by rwa [memRead_hookAt, hhook])), memRead_byteAt _ (.inl (by rwa [hhook])), hopcode]
  · rw [memRead_byteAt _ (.inl (by rwa [hhook])), hopcode]

/-- The interrupt check leaves the pending set and the intercept table (R254). -/
theorem irqCheck_host (s : State) :
    (irqCheck s).pending = s.pending ∧ (irqCheck s).intercepts = s.intercepts := by
  obtain e | ⟨-, -, -, e⟩ | ⟨-, -, e⟩ := irqCheck_cases s <;> rw [e] <;> simp

/-- An instruction and its fetch leave the pending set and the intercept table. -/
theorem exec_fetch_host {s t : State} (h : exec (fetch s).1 (fetch s).2 = .next t) :
    t.pending = s.pending ∧ t.intercepts = s.intercepts := by
  obtain ⟨-, -, -, -, -, -, -, -, hpending, hints, -⟩ := registersChangeOnlyByTheirWriters _ _ _ h
  exact ⟨hpending.trans (congrArg State.pending (fetch_noMem s) :),
    hints.trans (congrArg State.intercepts (fetch_noMem s) :)⟩

/-- A step leaves the pending set and the intercept table. -/
theorem step_host {s t : State} (h : step s = .next t) : t.pending = s.pending ∧ t.intercepts = s.intercepts := by
  obtain ⟨-, rfl⟩ | ⟨-, -, rfl⟩ | ⟨-, -, u, hu, rfl⟩ := step_next h
  · exact ⟨rfl, rfl⟩
  · exact irqCheck_host s
  · obtain ⟨hpending, hints⟩ := exec_fetch_host hu
    exact ⟨(irqCheck_host u).1.trans hpending, (irqCheck_host u).2.trans hints⟩

/-- A step changes no byte of a read-only region. -/
theorem step_byteAt_rom {s t : State} {b : Word} (h : step s = .next t) (hb : s.hookAt b = some .rom) :
    t.byteAt b = s.byteAt b := by
  obtain ⟨-, rfl⟩ | ⟨-, -, rfl⟩ | ⟨-, -, u, hu, rfl⟩ := step_next h
  · rfl
  · exact irqCheck_byteAt_rom hb
  · have hd : NoDevice (s.hookAt b) := noDevice_iff.mpr (.inr hb)
    have hfetch : (fetch s).2.hookAt b = some .rom := (congrArg (State.hookAt · b) (fetch_noMem s) :).trans hb
    have hexec : u.byteAt b = (fetch s).2.byteAt b :=
      exec_byteAt hu (noDevice_iff.mpr (.inr hfetch)) fun hn => absurd (hfetch.symm.trans hn) (by simp)
    have hu' : u.hookAt b = some .rom := (congrArg (hookGet · b.toNat) (exec_fetch_host hu).2).trans hb
    exact (irqCheck_byteAt_rom hu').trans (hexec.trans (fetch_byteAt hd))

/-- Settles O12: the frame of a step on the host's fields, and on the bytes of read-only regions. -/
theorem romAndHostStateNeverChange : Obligations.RomAndHostStateNeverChange :=
  fun _ _ h => ⟨(step_host h).1, (step_host h).2, fun _ hb => step_byteAt_rom h hb⟩

/-- Settles O10: memory stays canonical through every stage, and a step changes neither of the two tables
and ends with `cycles` 0. -/
theorem stepKeepsInvariant : Obligations.StepKeepsInvariant := by
  rintro s t ⟨hmem, hints, hpending, hcycles⟩ h
  obtain ⟨hp, hi⟩ := step_host h
  refine ⟨?_, hi ▸ hints, hp ▸ hpending, ?_⟩
  · obtain ⟨-, rfl⟩ | ⟨-, -, rfl⟩ | ⟨-, -, u, hu, rfl⟩ := step_next h
    · exact hmem
    · exact irqCheck_wf hmem
    · exact irqCheck_wf (exec_wf hu (fetch_wf hmem))
  · obtain ⟨-, rfl⟩ | ⟨-, -, rfl⟩ | ⟨-, -, u, -, rfl⟩ := step_next h
    · exact hcycles
    · exact endStep_cycles _
    · exact endStep_cycles _

/-! ### The host's calls -/

/-- `copyBytes` changes memory only (20_memory.md R57). -/
theorem copyBytes_noMem (start : Word) (bytes : List Byte) (s : State) :
    (copyBytes start bytes s).noMem = s.noMem :=
  congrArg (State.setHookCalls · 0) (copyBytes_setMem start bytes s [])

/-- A state that differs from one meeting the invariant only in memory, hook calls, registers, flags and
control bits meets it if its memory is canonical. -/
theorem State.Inv.of_host {s t : State} (h : s.Inv) (hmem : Memory.wf t.mem = true)
    (hints : t.intercepts = s.intercepts) (hpending : t.pending = s.pending) (hcycles : t.cycles = s.cycles) :
    t.Inv := by
  obtain ⟨-, hi, hp, hc⟩ := h
  exact ⟨hmem, hints ▸ hi, hpending ▸ hp, hcycles ▸ hc⟩

theorem bindRange_inv (start len : Nat) (g : Hook) {s : State} (h : s.Inv) : (bindRange start len g s).Inv := by
  obtain ⟨hmem, hints, hpending, hcycles⟩ := h
  unfold bindRange
  split
  case isTrue hr => exact ⟨hmem, interceptsWf_hookPutRange start g len hints hr.2.2, hpending, hcycles⟩
  case isFalse => exact ⟨hmem, hints, hpending, hcycles⟩

/-- Every host call keeps the invariant (60_exceptions.md R262 to R266, 20_memory.md R56, R57, R72). -/
theorem hostCall_inv (c : HostCall) {s : State} (h : s.Inv) : (hostCall c s).Inv := by
  have hinv := h
  obtain ⟨hmem, hints, hpending, hcycles⟩ := hinv
  cases c with
  | resetCpu => exact ⟨memRead16_wf resetVector hmem, by simpa [hostCall, resetCpu] using hints,
      by simpa [hostCall, resetCpu] using hpending, by simp [hostCall, resetCpu]⟩
  | raiseMaskableInterrupt k =>
    exact ⟨hmem, hints, sourcesWfFrom_insertSource hpending (Nat.zero_le k), hcycles⟩
  | clearMaskableInterrupt k => exact ⟨hmem, hints, sourcesWfFrom_removeSource k hpending, hcycles⟩
  | nonMaskableInterrupt =>
    exact h.of_host (interrupt_wf nmiVector false hmem) (interrupt_intercepts ..) (interrupt_pending ..)
      (interrupt_cycles ..)
  | setPC address => exact h
  | writeMemory a v =>
    exact h.of_host (memWrite_wf a v hmem) (memWrite_intercepts ..) (memWrite_pending ..) (memWrite_cycles ..)
  | readMemoryByte a =>
    exact h.of_host (memRead_wf a hmem) (memRead_intercepts ..) (memRead_pending ..) (memRead_cycles ..)
  | readMemoryWord a =>
    exact h.of_host (memRead16_wf a hmem) (memRead16_intercepts ..) (memRead16_pending ..) (memRead16_cycles ..)
  | bindIntercept addr g => exact bindRange_inv addr 1 g h
  | bindRange start len g => exact bindRange_inv start len g h
  | clearRange start len => exact ⟨hmem, interceptsWf_hookEraseRange start len hints, hpending, hcycles⟩
  | copyBytes start bytes =>
    exact h.of_host (copyBytes_wf bytes start hmem) (congrArg State.intercepts (copyBytes_noMem start bytes s) :)
      (congrArg State.pending (copyBytes_noMem start bytes s) :)
      (congrArg State.cycles (copyBytes_noMem start bytes s) :)

/-- Settles O11, by induction on the run: each step and each host call keeps the invariant. -/
theorem reachableStatesMeetInvariant : Obligations.ReachableStatesMeetInvariant := by
  intro s t hs hrun
  induction hrun with
  | here => exact hs
  | more u v _ hfollows ih =>
    cases hfollows with
    | byStep _ hstep => exact stepKeepsInvariant u v ih hstep
    | byHost c => exact hostCall_inv c ih

/-- Settles O9: the reset state's fields, and a reset of it reads the vector in an empty memory. -/
theorem resetStateMeetsInvariant : Obligations.ResetStateMeetsInvariant :=
  ⟨⟨rfl, rfl, rfl, rfl⟩, rfl, rfl, rfl, rfl, rfl, rfl, rfl, rfl, rfl⟩

/-! ### Stopping and waiting (10_state.md R33, R34) -/

/-- The interrupt check leaves `stopped`, and at most ends a wait (R254). -/
theorem irqCheck_control (s : State) :
    (irqCheck s).stopped = s.stopped ∧ ((irqCheck s).waiting = true → s.waiting = true) := by
  obtain e | ⟨-, -, -, e⟩ | ⟨-, -, e⟩ := irqCheck_cases s <;> rw [e] <;> simp

/-- STP is the one instruction of its operation. -/
theorem eq_stp_of_operation {i : Instr} (h : i.form.1 = .stp) : i = .stp := by
  cases i
  case stp => rfl
  all_goals cases h

/-- WAI is the one instruction of its operation. -/
theorem eq_wai_of_operation {i : Instr} (h : i.form.1 = .wai) : i = .wai := by
  cases i
  case wai => rfl
  all_goals cases h

/-- The control bits of a core are those before the fetch when neither STP nor WAI runs. -/
theorem exec_fetch_control {s t : State} (h : exec (fetch s).1 (fetch s).2 = .next t) :
    (t.stopped ≠ s.stopped → (fetch s).1 = .stp) ∧ (t.waiting ≠ s.waiting → (fetch s).1 = .wai) := by
  have hfetchStopped : (fetch s).2.stopped = s.stopped := (congrArg State.stopped (fetch_noMem s) :)
  have hfetchWaiting : (fetch s).2.waiting = s.waiting := (congrArg State.waiting (fetch_noMem s) :)
  obtain ⟨-, -, -, -, -, hstopped, hwaiting, -⟩ := registersChangeOnlyByTheirWriters _ _ _ h
  rw [hfetchStopped] at hstopped
  rw [hfetchWaiting] at hwaiting
  exact ⟨fun hne => eq_stp_of_operation (hstopped hne), fun hne => eq_wai_of_operation (hwaiting hne)⟩

/-- Of the host's calls only `resetCpu` changes `stopped`. -/
theorem hostCall_stopped {c : HostCall} (hc : c ≠ .resetCpu) (s : State) : (hostCall c s).stopped = s.stopped := by
  cases c with
  | resetCpu => exact absurd rfl hc
  | raiseMaskableInterrupt | clearMaskableInterrupt | setPC | clearRange => rfl
  | nonMaskableInterrupt => exact interrupt_stopped ..
  | writeMemory => exact memWrite_stopped ..
  | readMemoryByte => exact memRead_stopped ..
  | readMemoryWord => exact memRead16_stopped ..
  | bindIntercept | bindRange =>
    simp only [hostCall, bindIntercept, bindRange]
    split <;> rfl
  | copyBytes start bytes => exact (congrArg State.stopped (copyBytes_noMem start bytes s) :)

/-- Settles O8: the control bits change only by STP and WAI, and the interrupt check only ends a wait. -/
theorem onlyStpStopsAndOnlyWaiWaits : Obligations.OnlyStpStopsAndOnlyWaiWaits := by
  refine ⟨fun s t hs h => ?_, fun c s hs ht => ?_⟩
  · obtain ⟨hs', -⟩ | ⟨-, hw, rfl⟩ | ⟨-, hw, u, hu, rfl⟩ := step_next h
    · exact absurd (hs.symm.trans hs') (by decide)
    · refine ⟨fun hstop => ?_, fun _ => .inl hw⟩
      exact absurd (hstop.symm.trans ((irqCheck_control s).1.trans hs)) (by decide)
    · obtain ⟨hstopped, hwaiting⟩ := exec_fetch_control hu
      refine ⟨fun hstop => ⟨hw, hstopped fun he => ?_⟩, fun hwait => .inr (hwaiting fun he => ?_)⟩
      · exact absurd (hstop.symm.trans ((irqCheck_control u).1.trans (he.trans hs))) (by decide)
      · exact absurd (((irqCheck_control u).2 hwait).symm.trans (he.trans hw)) (by decide)
  · by_contra hc
    exact absurd (hs.symm.trans ((hostCall_stopped hc s).symm.trans ht)) (by decide)

end Sys2Proof.Machine
end

section
/-! The statements on loads, stores, transfers, increments, logic, shifts and single bits
(41_load_store_transfer.md, 42_arithmetic.md R164 to R172, 43_logic_shift_bit.md). -/

namespace Sys2Proof.Machine

/-! ### Running one operation in a mode -/

/-- An instruction whose operation asks for no write-back answers what the operation makes of the operand. -/
theorem exec_done {i : Instr} {op : Operation} {m : Operand} {o : Oper} {f : Word → Byte → State → State}
    (h : i.form = (op, m)) (s : State) (hrun : runForm op m s = runRead o m s)
    (hdone : ∀ address alu t, o address alu t = .done (f address alu t)) :
    exec i s = .next (f (resolve true m s).address (resolve true m s).alu (afterMode true m s)) := by
  rw [exec_form h, hrun, runRead, runStages, hdone]
  rfl

/-- An instruction whose operation sets `wb` answers the write-back of the operation's byte. -/
theorem exec_back {i : Instr} {op : Operation} {m : Operand} {o : Oper} {f : Word → Byte → State → State}
    {g : Byte → State → Byte} (h : i.form = (op, m)) (s : State) (hrun : runForm op m s = runRead o m s)
    (hback : ∀ address alu t, o address alu t = .back (g alu t) (f address alu t)) :
    exec i s = .next (writeBack m.mode (resolve true m s).address (g (resolve true m s).alu (afterMode true m s))
      (f (resolve true m s).address (resolve true m s).alu (afterMode true m s))) := by
  rw [exec_form h, hrun, runRead, runStages, hback]
  rfl

/-- The mode of an instruction whose form is given is one that its operation lists. -/
theorem form_mode_of {i : Instr} {op : Operation} {m : Operand} (h : i.form = (op, m)) : m.mode ∈ op.modes := by
  have hm := form_mode i
  rwa [h] at hm

/-- In mode IMP the addressing stage changes nothing (R106). -/
theorem afterMode_imp (s : State) : afterMode true .imp s = s := by
  have hpc : s.pc + BitVec.ofNat 16 0 = s.pc := BitVec.add_zero s.pc
  exact congrArg s.setPc hpc

/-- The write-back of an operation that stores to its operand: to `A` in mode ACC, else to memory (R104). -/
theorem writeBack_of_storesOperand {op : Operation} {m : Operand} (hop : StoresOperand op) (hm : m.mode ∈ op.modes)
    (address : Word) (v : Byte) (t : State) :
    writeBack m.mode address v t = if m = .acc then t.setA v else memWrite address v t := by
  have hmode : m.mode ∈ ([.acc, .zp, .zpx, .zpy, .abs, .abx, .aby, .izx, .izy, .izp] : List Mode) := by
    cases op
    case sta | stx | sty | stz | asl | lsr | rol | ror | inc | dec | trb | tsb | rmb | smb =>
      simp only [Operation.modes, List.mem_cons, List.not_mem_nil, or_false] at hm ⊢
      tauto
    all_goals simp [StoresOperand] at hop
  cases m
  case acc | zp | zpx | zpy | abs | abx | aby | izx | izy | izp => rfl
  all_goals simp [Operand.mode] at hmode

/-- An operation without a form in mode ACC writes back to memory. -/
theorem writeBack_memory {i : Instr} {op : Operation} {m : Operand} (h : i.form = (op, m)) (hop : StoresOperand op)
    (hacc : Mode.acc ∉ op.modes) (address : Word) (v : Byte) (t : State) :
    writeBack m.mode address v t = memWrite address v t := by
  rw [writeBack_of_storesOperand hop (form_mode_of h), if_neg]
  rintro rfl
  exact hacc (form_mode_of h)

/-! ### Loads, stores and transfers (41_load_store_transfer.md R140 to R152) -/

/-- Settles O23: a load leaves the operand byte in its register and its `N` and `Z` in the flags. -/
theorem loadsGiveTheOperandByte : Obligations.LoadsGiveTheOperandByte := by
  intro i m s
  rw [← afterMode_flags true m s]
  exact ⟨fun h => exec_done h s rfl fun _ _ _ => rfl, fun h => exec_done h s rfl fun _ _ _ => rfl,
    fun h => exec_done h s rfl fun _ _ _ => rfl⟩

/-- A store writes its register, or zero, at the effective address (R143 to R146). -/
theorem exec_store {i : Instr} {m : Operand} {v : Byte} {s : State}
    (h : (i.form = (.sta, m) ∧ v = s.a) ∨ (i.form = (.stx, m) ∧ v = s.x) ∨ (i.form = (.sty, m) ∧ v = s.y) ∨
      (i.form = (.stz, m) ∧ v = 0x00#8)) :
    exec i s = .next (memWrite (resolve false m s).address v (afterMode false m s)) := by
  obtain ⟨h, rfl⟩ | ⟨h, rfl⟩ | ⟨h, rfl⟩ | ⟨h, rfl⟩ := h <;>
    rw [exec_form h, ← writeBack_memory h (.inl (by decide)) (by decide)]
  · rw [← afterMode_a false m s]; rfl
  · rw [← afterMode_x false m s]; rfl
  · rw [← afterMode_y false m s]; rfl
  · rfl

/-- Settles O24: a store is one write after the addressing stage. -/
theorem storesWriteTheRegister : Obligations.StoresWriteTheRegister := by
  intro i m v s h
  refine ⟨exec_store h, ?_, fun hm hn => ?_, fun b hb hread => ?_⟩
  · rw [memWrite_noMem, afterMode_noMem]
  · exact memWrite_byteAt_same v (afterMode_wf _ _ _ hm) (by simpa using hn)
  · rw [memWrite_byteAt_other _ v hb]
    exact resolve_byteAt false m (hread.imp (fun hn => noDevice_iff.mpr (.inl hn)) fun hr => ⟨hr, hb⟩)

/-- Settles O25: each of the ten is one register write and, but for TXS, the flags of the byte written. -/
theorem transfersAndIndexSteps : Obligations.TransfersAndIndexSteps := by
  intro s
  refine ⟨?_, ?_, ?_, ?_, ?_, ?_, ?_, ?_, ?_, ?_⟩ <;>
    rw [exec_done rfl s rfl fun _ _ _ => rfl, afterMode_imp] <;> rfl

/-! ### Increments and decrements (42_arithmetic.md R167, R168) -/

/-- Settles O31: the byte one up or down is written back, and its `N` and `Z` go to the flags. -/
theorem incrementAndDecrementOperand : Obligations.IncrementAndDecrementOperand := by
  intro i m s
  rw [← afterMode_flags true m s]
  have hinc : ∀ b : Byte, BitVec.ofNat 8 (b.toNat + 1) = b + 1#8 := fun b => by bv_omega
  have hdec : ∀ b : Byte, BitVec.ofNat 8 (b.toNat + 255) = b - 1#8 := fun b => by bv_omega
  refine ⟨fun h => ?_, fun h => ?_⟩
  · rw [exec_back h s rfl fun _ _ _ => rfl, writeBack_of_storesOperand (.inl (by decide)) (form_mode_of h), hinc]
    rfl
  · rw [exec_back h s rfl fun _ _ _ => rfl, writeBack_of_storesOperand (.inl (by decide)) (form_mode_of h), hdec]
    rfl

/-! ### Logic and bit test (43_logic_shift_bit.md R180 to R183) -/

/-- Settles O32: one register write, or for BIT the flags of the operand and of the test. -/
theorem logicAndBitTest : Obligations.LogicAndBitTest := by
  intro i m s
  rw [← afterMode_flags true m s, ← afterMode_a true m s]
  refine ⟨fun h => exec_done h s rfl fun _ _ _ => rfl, fun h => exec_done h s rfl fun _ _ _ => rfl,
    fun h => exec_done h s rfl fun _ _ _ => rfl, fun h => ?_⟩
  by_cases hm : m.mode = .imm
  · rw [exec_done (o := opBitImm) h s (by simp [runForm, hm]) fun _ _ _ => rfl, if_pos hm]
    rfl
  · rw [exec_done (o := opBit) h s (by simp [runForm, hm]) fun _ _ _ => rfl, if_neg hm]
    rfl

/-! ### Shifts and rotates (43_logic_shift_bit.md R184 to R187) -/

/-- A shift left doubles modulo 256. -/
theorem shiftLeft_one_eq (b : Byte) : b <<< 1 = BitVec.ofNat 8 (2 * b.toNat) := by
  apply BitVec.eq_of_toNat_eq
  rw [BitVec.toNat_shiftLeft, Nat.shiftLeft_eq, BitVec.toNat_ofNat, Nat.mul_comm]

/-- A shift right halves. -/
theorem shiftRight_one_eq (b : Byte) : b >>> 1 = BitVec.ofNat 8 (b.toNat / 2) := by
  apply BitVec.eq_of_toNat_eq
  rw [BitVec.toNat_ushiftRight, Nat.shiftRight_eq_div_pow, BitVec.toNat_ofNat]
  omega

/-- A rotate left doubles and adds the old carry (R186). -/
theorem rolByte_eq (b : Byte) (c : Bool) : rolByte b c = BitVec.ofNat 8 (2 * b.toNat + c.toNat) := by
  have hlow : (b <<< 1) &&& (if c then 0x01#8 else 0x00#8) = 0#8 := by
    cases c
    · simp
    · ext k hk
      simp only [BitVec.getElem_and, BitVec.getElem_shiftLeft]
      cases k <;> simp
  rw [rolByte, ← BitVec.add_eq_or_of_and_eq_zero _ _ hlow, shiftLeft_one_eq]
  cases c <;> simp [BitVec.ofNat_add]

/-- A rotate right halves and puts the old carry at bit 7 (R187). -/
theorem rorByte_eq (b : Byte) (c : Bool) : rorByte b c = BitVec.ofNat 8 (b.toNat / 2 + 128 * c.toNat) := by
  have hhigh : (b >>> 1) &&& (if c then 0x80#8 else 0x00#8) = 0#8 := by
    cases c
    · simp
    · ext k hk
      have hbelow : ∀ j (hj : j < 8), j < 7 → (0x80#8)[j] = false := by decide
      obtain hlt | rfl : k < 7 ∨ k = 7 := by omega
      · simp [hbelow k hk hlt]
      · simp
  rw [rorByte, ← BitVec.add_eq_or_of_and_eq_zero _ _ hhigh, shiftRight_one_eq]
  cases c <;> simp [BitVec.ofNat_add]

/-- Settles O33: the byte shifted or rotated is written back, and the bit shifted out is the carry. -/
theorem shiftsAndRotates : Obligations.ShiftsAndRotates := by
  intro i m s
  rw [← afterMode_flags true m s]
  refine ⟨fun h => ?_, fun h => ?_, fun h => ?_, fun h => ?_⟩ <;>
    rw [exec_back h s rfl fun _ _ _ => rfl, writeBack_of_storesOperand (.inl (by decide)) (form_mode_of h)]
  · rw [shiftLeft_one_eq]; rfl
  · rw [shiftRight_one_eq]; rfl
  · rw [rolByte_eq]; rfl
  · rw [rorByte_eq]; rfl

/-! ### Bits of a memory byte (43_logic_shift_bit.md R188 to R191) -/

/-- The mask of bit `n` has that bit and no other. -/
theorem getLsbD_bitMask (n : Fin 8) {k : Nat} (hk : k < 8) : (bitMask n.val).getLsbD k = decide (k = n.val) := by
  have hall : ∀ (n k : Fin 8), (bitMask n.val).getLsbD k.val = decide (k.val = n.val) := by decide
  exact hall n ⟨k, hk⟩

/-- Settles O34: the byte with bits cleared or set is written back, and TRB and TSB test it before. -/
theorem memoryBitOperations : Obligations.MemoryBitOperations := by
  intro i n m s v
  rw [← afterMode_flags true m s, ← afterMode_a true m s]
  refine ⟨fun h => ⟨v &&& ~~~(afterMode true m s).a, ?_, fun k hk => ?_⟩,
    fun h => ⟨v ||| (afterMode true m s).a, ?_, fun k hk => ?_⟩,
    fun h => ⟨v &&& ~~~bitMask n.val, ?_, fun k hk => ?_⟩, fun h => ⟨v ||| bitMask n.val, ?_, fun k hk => ?_⟩⟩
  · rw [exec_back h s rfl fun _ _ _ => rfl, writeBack_memory h (.inl (by decide)) (by decide)]
    rfl
  · simp [hk]
  · rw [exec_back h s rfl fun _ _ _ => rfl, writeBack_memory h (.inl (by decide)) (by decide)]
    rfl
  · simp
  · rw [exec_back h s rfl fun _ _ _ => rfl, writeBack_memory h (.inr (.inl ⟨n, rfl⟩)) (by simp [Operation.modes])]
  · rw [BitVec.getLsbD_and, BitVec.getLsbD_not, getLsbD_bitMask n hk]
    by_cases hkn : k = n.val <;> simp [hkn, hk]
  · rw [exec_back h s rfl fun _ _ _ => rfl, writeBack_memory h (.inr (.inr ⟨n, rfl⟩)) (by simp [Operation.modes])]
  · rw [BitVec.getLsbD_or, getLsbD_bitMask n hk]
    by_cases hkn : k = n.val <;> simp [hkn]

end Sys2Proof.Machine
end

section
/-! The statements on the stack instructions, the flag instructions and the flags byte (45_stack_flags_system.md
R220 to R241, 10_state.md R29, R30), and on BRK and RTI. -/

namespace Sys2Proof.Machine

/-- An implied instruction runs its operation on the state itself (R106). -/
theorem exec_implied (i : Instr) (s : State) {op : Operation} {o : Oper} {f : State → State} (h : i.form = (op, .imp))
    (hrun : runForm op .imp s = runRead o .imp s) (hdone : ∀ address alu t, o address alu t = .done (f t)) :
    exec i s = .next (f s) := by
  rw [exec_done h s hrun hdone, afterMode_imp]

/-! ### The flags byte (10_state.md R29, R30) -/

/-- The bits of the flags byte: the six flags, the Break bit, and bit 5 set (R29). -/
theorem flagsByte_bits (f : Flags) (brk : Bool) :
    bitAt (flagsByte f brk) 7 = f.n ∧ bitAt (flagsByte f brk) 6 = f.v ∧ bitAt (flagsByte f brk) 5 = true ∧
      bitAt (flagsByte f brk) 4 = brk ∧ bitAt (flagsByte f brk) 3 = f.d ∧ bitAt (flagsByte f brk) 2 = f.i ∧
      bitAt (flagsByte f brk) 1 = f.z ∧ bitAt (flagsByte f brk) 0 = f.c := by
  obtain ⟨n, v, d, i, z, c⟩ := f
  revert n v d i z c brk
  decide

/-- The flags that a flags byte was formed from are read back from it (R30). -/
theorem flagsOfByte_flagsByte (f : Flags) (brk : Bool) : flagsOfByte (flagsByte f brk) = f := by
  obtain ⟨hn, hv, -, -, hd, hi, hz, hc⟩ := flagsByte_bits f brk
  rw [flagsOfByte, hn, hv, hd, hi, hz, hc]

/-- The flags byte of the flags taken from a byte, bit by bit. -/
theorem flagsByte_flagsOfByte (b : Byte) (brk : Bool) :
    flagsByte (flagsOfByte b) brk = (b &&& 0xCF#8) ||| 0x20#8 ||| (if brk = true then 0x10#8 else 0x00#8) := by
  obtain ⟨h7, h6, h5, h4, h3, h2, h1, h0⟩ := flagsByte_bits (flagsOfByte b) brk
  generalize flagsByte (flagsOfByte b) brk = y at *
  simp only [bitAt, flagsOfByte] at h7 h6 h5 h4 h3 h2 h1 h0
  refine BitVec.eq_of_getLsbD_eq fun k hk => ?_
  rw [BitVec.getLsbD_or, BitVec.getLsbD_or, BitVec.getLsbD_and]
  cases brk <;> interval_cases k <;> simp only [h7, h6, h5, h4, h3, h2, h1, h0] <;> simp

/-- Settles O42, from the bits of the flags byte. -/
theorem flagsByteRoundTrip : Obligations.FlagsByteRoundTrip :=
  ⟨flagsByte_flagsOfByte, flagsOfByte_flagsByte⟩

/-! ### Pushes and pulls (45_stack_flags_system.md R220 to R227) -/

/-- Settles O40: each is one push, or one pop and the write of what was popped. -/
theorem pushAndPullInstructions : Obligations.PushAndPullInstructions := by
  intro s
  obtain ⟨-, -, hunused, hbreak, -⟩ := flagsByte_bits s.flags true
  refine ⟨exec_implied .pha s (f := fun t => push t.a t) rfl rfl fun _ _ _ => rfl,
    exec_implied .phx s (f := fun t => push t.x t) rfl rfl fun _ _ _ => rfl,
    exec_implied .phy s (f := fun t => push t.y t) rfl rfl fun _ _ _ => rfl,
    exec_implied .php s (f := fun t => push (flagsByte t.flags true) t) rfl rfl fun _ _ _ => rfl, hbreak, hunused,
    ?_, ?_, ?_, exec_implied .plp s rfl rfl fun _ _ _ => rfl⟩ <;> rw [← pop_flags s]
  · exact exec_implied .pla s rfl rfl fun _ _ _ => rfl
  · exact exec_implied .plx s rfl rfl fun _ _ _ => rfl
  · exact exec_implied .ply s rfl rfl fun _ _ _ => rfl

/-! ### One-bit instructions and NOP (R228 to R235, R240, R241) -/

/-- Settles O41: each writes its bit of the state itself. -/
theorem oneBitInstructionsAndNop : Obligations.OneBitInstructionsAndNop := fun s =>
  ⟨exec_implied .clc s rfl rfl fun _ _ _ => rfl, exec_implied .cld s rfl rfl fun _ _ _ => rfl,
    exec_implied .cli s rfl rfl fun _ _ _ => rfl, exec_implied .clv s rfl rfl fun _ _ _ => rfl,
    exec_implied .sec s rfl rfl fun _ _ _ => rfl, exec_implied .sed s rfl rfl fun _ _ _ => rfl,
    exec_implied .sei s rfl rfl fun _ _ _ => rfl, exec_implied .stp s rfl rfl fun _ _ _ => rfl,
    exec_implied .wai s rfl rfl fun _ _ _ => rfl, exec_implied .nop s rfl rfl fun _ _ _ => rfl⟩

/-! ### BRK and RTI (R236, R237) -/

/-- BRK is the shared entry after its padding byte (R236). -/
theorem exec_brk (s : State) : exec .brk s = .next (interrupt irqVector true (s.setPc (s.pc + 1#16))) :=
  exec_implied .brk s rfl rfl fun _ _ _ => rfl

/-- RTI is the return from an interrupt (R237). -/
theorem exec_rti (s : State) : exec .rti s = .next (returnFromInterrupt s) :=
  exec_implied .rti s rfl rfl fun _ _ _ => rfl

/-- Settles O45: BRK's own bytes and cycles, and the entry's sequence after its padding byte. -/
theorem brkEntersThroughTheIrqVector : Obligations.BrkEntersThroughTheIrqVector := by
  refine ⟨rfl, rfl, fun s => ⟨?_, ?_⟩⟩
  · rw [exec_brk, interrupt_eq]
    rfl
  · simp

/-- Settles O46: the sequence of the return from an interrupt. -/
theorem rtiRestoresFlagsThenPc : Obligations.RtiRestoresFlagsThenPc := exec_rti

end Sys2Proof.Machine
end

section
/-! The statements on arithmetic (42_arithmetic.md R160 to R166). -/

namespace Sys2Proof.Machine

/-! ### What ADC, SBC and the compares answer -/

/-- A state with the result of an ADC or SBC in `A`, `N`, `V`, `Z` and `C`, and `D` and `I` those of `f`. -/
def withArith (t : State) (f : Flags) (r : ArithResult) : State := { t with a := r.a, flags := f.setArith r }

/-- ADC answers its decimal or binary result, by `D` (R160, R161). -/
theorem exec_adc {i : Instr} {m : Operand} (h : i.form = (.adc, m)) (s : State) :
    exec i s = .next (withArith (afterMode true m s) s.flags
      (if s.flags.d then decimalAdc s.a (resolve true m s).alu s.flags.c
        else binaryAdc s.a (resolve true m s).alu s.flags.c)) := by
  rw [← afterMode_flags true m s, ← afterMode_a true m s]
  exact exec_done h s rfl fun _ _ _ => rfl

/-- SBC answers its decimal or binary result, by `D` (R162, R163). -/
theorem exec_sbc {i : Instr} {m : Operand} (h : i.form = (.sbc, m)) (s : State) :
    exec i s = .next (withArith (afterMode true m s) s.flags
      (if s.flags.d then decimalSbc s.a (resolve true m s).alu s.flags.c
        else binarySbc s.a (resolve true m s).alu s.flags.c)) := by
  rw [← afterMode_flags true m s, ← afterMode_a true m s]
  exact exec_done h s rfl fun _ _ _ => rfl

/-! ### Binary ADC and SBC (R160, R162) -/

/-- The overflow bit of a sum: operands of one sign, a result of the other. -/
theorem addOverflow_bit (a m r : Byte) :
    bitAt (~~~(a ^^^ m) &&& (a ^^^ r)) 7 = decide (a.msb = m.msb ∧ a.msb ≠ r.msb) := by
  have hbit : bitAt (~~~(a ^^^ m) &&& (a ^^^ r)) 7 = (!(a.msb ^^ m.msb) && (a.msb ^^ r.msb)) := by
    simp [bitAt, BitVec.msb_eq_getLsbD_last]
  rw [hbit]
  cases a.msb <;> cases m.msb <;> cases r.msb <;> rfl

/-- The overflow bit of a difference: operands of two signs, a result of the subtrahend's. -/
theorem subOverflow_bit (a m r : Byte) :
    bitAt ((a ^^^ m) &&& (a ^^^ r)) 7 = decide (a.msb ≠ m.msb ∧ a.msb ≠ r.msb) := by
  have hbit : bitAt ((a ^^^ m) &&& (a ^^^ r)) 7 = ((a.msb ^^ m.msb) && (a.msb ^^ r.msb)) := by
    simp [bitAt, BitVec.msb_eq_getLsbD_last]
  rw [hbit]
  cases a.msb <;> cases m.msb <;> cases r.msb <;> rfl

/-- The sign of a byte, and its signed reading. -/
theorem msb_toInt_cases (b : Byte) :
    (b.msb = false ∧ b.toInt = b.toNat ∧ b.toNat < 128) ∨ (b.msb = true ∧ b.toInt = b.toNat - 256 ∧ 128 ≤ b.toNat) := by
  have hmsb := BitVec.msb_eq_decide b
  have hint := BitVec.toInt_eq_toNat_cond b
  by_cases h : b.toNat < 128
  · exact .inl ⟨by rw [hmsb]; simp; omega, by rw [hint]; split <;> omega, h⟩
  · exact .inr ⟨by rw [hmsb]; simp; omega, by rw [hint]; split <;> omega, by omega⟩

/-- A binary sum overflows when its signed reading is not the exact signed sum. -/
theorem binaryAdc_overflow (a m : Byte) (c : Bool) :
    (binaryAdc a m c).v
      = decide ((BitVec.ofNat 8 (a.toNat + m.toNat + c.toNat)).toInt ≠ a.toInt + m.toInt + c.toNat) := by
  have hr := BitVec.toNat_ofNat (a.toNat + m.toNat + c.toNat) 8
  have hc := c.toNat_le
  have ha := msb_toInt_cases a
  have hm := msb_toInt_cases m
  simp only [binaryAdc, addOverflow_bit]
  generalize BitVec.ofNat 8 (a.toNat + m.toNat + c.toNat) = r at hr ⊢
  have hr' := msb_toInt_cases r
  rw [decide_eq_decide]
  obtain ⟨ha, ha', _⟩ | ⟨ha, ha', _⟩ := ha <;> obtain ⟨hm, hm', _⟩ | ⟨hm, hm', _⟩ := hm <;>
    obtain ⟨hs, hs', _⟩ | ⟨hs, hs', _⟩ := hr' <;> simp [ha, hm, hs] <;> omega

/-- A binary difference overflows when its signed reading is not the exact signed difference. -/
theorem binarySbc_overflow (a m : Byte) (c : Bool) :
    (binarySbc a m c).v
      = decide ((BitVec.ofInt 8 ((a.toNat : Int) - m.toNat - (1 - c.toNat))).toInt ≠ a.toInt - m.toInt - (1 - c.toNat)) := by
  have hr := BitVec.toNat_ofInt (n := 8) ((a.toNat : Int) - m.toNat - (1 - c.toNat))
  have hc := c.toNat_le
  have ha := msb_toInt_cases a
  have hm := msb_toInt_cases m
  simp only [binarySbc, subOverflow_bit]
  generalize BitVec.ofInt 8 ((a.toNat : Int) - m.toNat - (1 - c.toNat)) = r at hr ⊢
  have hr' := msb_toInt_cases r
  rw [decide_eq_decide]
  obtain ⟨ha, ha', _⟩ | ⟨ha, ha', _⟩ := ha <;> obtain ⟨hm, hm', _⟩ | ⟨hm, hm', _⟩ := hm <;>
    obtain ⟨hs, hs', _⟩ | ⟨hs, hs', _⟩ := hr' <;> simp [ha, hm, hs] <;> omega

/-- Settles O27: with `D` clear the result is the binary one, whose `V` is signed overflow. -/
theorem binaryAdcAndSbc : Obligations.BinaryAdcAndSbc := by
  intro i m s hd
  refine ⟨fun h => ?_, fun h => ?_⟩
  · rw [exec_adc h, hd, if_neg (by decide)]
    dsimp only
    rw [← binaryAdc_overflow]
    rfl
  · rw [exec_sbc h, hd, if_neg (by decide)]
    dsimp only
    rw [← binarySbc_overflow]
    rfl

/-! ### Compares (R164 to R166) -/

/-- A difference of bytes, modulo 256. -/
theorem ofInt_sub_toNat (r v : Byte) : BitVec.ofInt 8 ((r.toNat : Int) - v.toNat) = r - v := by
  apply BitVec.eq_of_toNat_eq
  rw [BitVec.toNat_ofInt, BitVec.toNat_sub]
  omega

/-- The flags of a compare: unsigned at-least, equality, and the sign of the difference (R164). -/
theorem setCompare_eq (f : Flags) (r v : Byte) :
    f.setCompare r v = { f with n := (r - v).msb, z := decide (r = v), c := decide (v.toNat ≤ r.toNat) } := by
  have hz : r - v = 0#8 ↔ r = v := by bv_omega
  have hc : (0 : Int) ≤ (r.toNat : Int) - v.toNat ↔ v.toNat ≤ r.toNat := by omega
  simp only [Flags.setCompare, Flags.setNZ, ofInt_sub_toNat, carryFromSub, hz, hc]
  rfl

/-- Settles O30: a compare writes the flags of its register and the operand, and nothing else. -/
theorem comparesAreUnsignedAndStoreNothing : Obligations.ComparesAreUnsignedAndStoreNothing := by
  intro i m s
  refine ⟨fun h => ?_, fun h => ?_, fun h => ?_⟩ <;>
    rw [exec_done h s rfl fun _ _ _ => rfl, setCompare_eq, afterMode_flags]
  · rw [afterMode_a]; rfl
  · rw [afterMode_x]; rfl
  · rw [afterMode_y]; rfl

end Sys2Proof.Machine
end

section
/-! The statements on decimal arithmetic (42_arithmetic.md R161, R163). -/

namespace Sys2Proof.Machine

/-! ### The masks of the algorithms (R161, R163) -/

/-- The low nibble. -/
theorem and_0F (x : Nat) : x &&& 0x0F = x % 16 := Nat.and_two_pow_sub_one_eq_mod x 4

/-- The high nibble of a byte, in place. -/
theorem byte_and_F0 (b : Byte) : b.toNat &&& 0xF0 = b.toNat / 16 * 16 := by
  have hshift : b.toNat / 16 * 16 = b.toNat >>> 4 <<< 4 := by
    rw [Nat.shiftRight_eq_div_pow, Nat.shiftLeft_eq]
  rw [hshift]
  refine Nat.eq_of_testBit_eq fun k => ?_
  rw [Nat.testBit_and, Nat.testBit_shiftLeft, Nat.testBit_shiftRight]
  by_cases hk : k < 8
  · interval_cases k <;> simp [Nat.testBit]
  · have hhigh : b.toNat.testBit k = false :=
      Nat.testBit_lt_two_pow (b.isLt.trans_le (Nat.pow_le_pow_right (by decide) (Nat.le_of_not_lt hk)))
    simp [hhigh, show 4 + (k - 4) = k by omega]

/-- The low byte. -/
theorem ofNat_and_FF (x : Nat) : BitVec.ofNat 8 (x &&& 0xFF) = BitVec.ofNat 8 x := by
  apply BitVec.eq_of_toNat_eq
  rw [Nat.and_two_pow_sub_one_eq_mod x 8, BitVec.toNat_ofNat, BitVec.toNat_ofNat, Nat.mod_mod]

/-- The overflow bit of decimal ADC, as bit 7 of the operands and of the unadjusted sum. -/
theorem decimalAdc_overflow (a m : Byte) (t0 : Nat) :
    bitAt (~~~(a ^^^ m) &&& (a ^^^ BitVec.ofNat 8 t0)) 7
      = decide (a.toNat.testBit 7 = m.toNat.testBit 7 ∧ a.toNat.testBit 7 ≠ t0.testBit 7) := by
  have hbyte : ∀ b : Byte, b.msb = b.toNat.testBit 7 := fun b => BitVec.msb_eq_getLsbD_last b
  have hnat : (BitVec.ofNat 8 t0).msb = t0.testBit 7 := by
    rw [BitVec.msb_eq_getLsbD_last, BitVec.getLsbD_ofNat]
    simp
  rw [addOverflow_bit, hnat, hbyte, hbyte]

/-- Settles O28: the model's remainders are the algorithms' masks. -/
theorem decimalAlgorithms : Obligations.DecimalAlgorithms := by
  intro i m s hd
  refine ⟨fun h => ?_, fun h => ?_⟩
  · rw [exec_adc h, hd, if_pos rfl]
    dsimp only
    rw [and_0F, and_0F, byte_and_F0, byte_and_F0, ofNat_and_FF, and_0F]
    simp only [decimalAdc, decimalAdc_overflow]
    rfl
  · rw [exec_sbc h, hd, if_pos rfl]
    dsimp only
    rw [and_0F, and_0F, byte_and_F0, byte_and_F0]
    simp only [decimalSbc, subOverflow_bit]
    rfl

/-! ### Valid BCD (R161, R163) -/

/-- The number that two decimal digits stand for. -/
def bcdValue (b : Byte) : Nat := 10 * (b.toNat / 16) + b.toNat % 16

/-- Both nibbles are decimal digits. -/
def ValidBcd (b : Byte) : Prop := b.toNat / 16 ≤ 9 ∧ b.toNat % 16 ≤ 9

/-- The digits of a number that is given by them. -/
theorem nibbles_of_eq {r h l : Nat} (hr : r = 16 * h + l) (hl : l ≤ 9) : r / 16 = h ∧ r % 16 = l := by
  omega

/-- The sum of R161 on decimal digits: the adjusted sum is the decimal one, digit by digit. -/
theorem decimalSum_digits {ah al mh ml k : Nat} (hah : ah ≤ 9) (hal : al ≤ 9) (hmh : mh ≤ 9) (hml : ml ≤ 9)
    (hk : k ≤ 1) :
    let low := if 0x0A ≤ al + ml + k then (al + ml + k + 0x06) % 16 + 0x10 else al + ml + k
    let t0 := ah * 16 + mh * 16 + low
    let t := if 0xA0 ≤ t0 then t0 + 0x60 else t0
    ∀ r, r = t % 256 → (r / 16 ≤ 9 ∧ r % 16 ≤ 9) ∧
      10 * (r / 16) + r % 16 = (10 * ah + al + (10 * mh + ml) + k) % 100 ∧
      (0x100 ≤ t ↔ 100 ≤ 10 * ah + al + (10 * mh + ml) + k) := by
  have hadjust : 10 ≤ al + ml + k → (al + ml + k + 6) % 16 + 16 = al + ml + k + 6 := by omega
  intro low t0 t r hr
  by_cases hlow : 10 ≤ al + ml + k
  · have hlow' : low = al + ml + k + 6 := (if_pos hlow).trans (hadjust hlow)
    by_cases hhigh : 0xA0 ≤ t0
    · have ht : t = t0 + 0x60 := if_pos hhigh
      obtain ⟨hdiv, hmod⟩ := nibbles_of_eq (r := r) (h := ah + mh + 1 - 10) (l := al + ml + k - 10)
        (by omega) (by omega)
      omega
    · have ht : t = t0 := if_neg hhigh
      obtain ⟨hdiv, hmod⟩ := nibbles_of_eq (r := r) (h := ah + mh + 1) (l := al + ml + k - 10) (by omega) (by omega)
      omega
  · have hlow' : low = al + ml + k := if_neg hlow
    by_cases hhigh : 0xA0 ≤ t0
    · have ht : t = t0 + 0x60 := if_pos hhigh
      obtain ⟨hdiv, hmod⟩ := nibbles_of_eq (r := r) (h := ah + mh - 10) (l := al + ml + k) (by omega) (by omega)
      omega
    · have ht : t = t0 := if_neg hhigh
      obtain ⟨hdiv, hmod⟩ := nibbles_of_eq (r := r) (h := ah + mh) (l := al + ml + k) (by omega) (by omega)
      omega

/-- The difference of R163 on decimal digits: the adjusted difference is the decimal one, digit by digit. -/
theorem decimalDifference_digits {ah al mh ml k : Nat} (hah : ah ≤ 9) (hal : al ≤ 9) (hmh : mh ≤ 9) (hml : ml ≤ 9)
    (hk : k ≤ 1) :
    let b : Int := 1 - (k : Int)
    let al0 : Int := (al : Int) - (ml : Int) - b
    let low : Int := if al0 < 0 then (al0 - 0x06) % 16 - 0x10 else al0
    let r0 : Int := ((ah * 16 : Nat) : Int) - ((mh * 16 : Nat) : Int) + low
    let r1 : Int := if r0 < 0 then r0 - 0x60 else r0
    let dif : Int := ((10 * ah + al : Nat) : Int) - ((10 * mh + ml : Nat) : Int) - b
    ∀ r : Nat, (r : Int) = r1 % 256 → (r / 16 ≤ 9 ∧ r % 16 ≤ 9) ∧ ((10 * (r / 16) + r % 16 : Nat) : Int) = dif % 100 ∧
      (0 ≤ 16 * (ah : Int) + al - (16 * mh + ml) - b ↔ 0 ≤ dif) := by
  intro b al0 low r0 r1 dif r hr
  have hadjust : al0 < 0 → (al0 - 6) % 16 - 16 = al0 - 6 := by omega
  by_cases hlow : al0 < 0
  · have hlow' : low = al0 - 6 := (if_pos hlow).trans (hadjust hlow)
    by_cases hhigh : r0 < 0
    · have hr1 : r1 = r0 - 0x60 := if_pos hhigh
      obtain ⟨hdiv, hmod⟩ := nibbles_of_eq (r := r) (h := ah + 9 - mh) (l := al + 9 + k - ml) (by omega) (by omega)
      omega
    · have hr1 : r1 = r0 := if_neg hhigh
      obtain ⟨hdiv, hmod⟩ := nibbles_of_eq (r := r) (h := ah - (mh + 1)) (l := al + 9 + k - ml) (by omega) (by omega)
      omega
  · have hlow' : low = al0 := if_neg hlow
    by_cases hhigh : r0 < 0
    · have hr1 : r1 = r0 - 0x60 := if_pos hhigh
      obtain ⟨hdiv, hmod⟩ := nibbles_of_eq (r := r) (h := ah + 10 - mh) (l := al + k - (ml + 1)) (by omega) (by omega)
      omega
    · have hr1 : r1 = r0 := if_neg hhigh
      obtain ⟨hdiv, hmod⟩ := nibbles_of_eq (r := r) (h := ah - mh) (l := al + k - (ml + 1)) (by omega) (by omega)
      omega

/-- Decimal ADC adds two-digit decimal numbers. -/
theorem decimalAdc_bcd {a m : Byte} (c : Bool) (ha : ValidBcd a) (hm : ValidBcd m) :
    ValidBcd (decimalAdc a m c).a ∧
      bcdValue (decimalAdc a m c).a = (bcdValue a + bcdValue m + c.toNat) % 100 ∧
      (decimalAdc a m c).c = decide (100 ≤ bcdValue a + bcdValue m + c.toNat) := by
  obtain ⟨hvalid, hvalue, hcarry⟩ := decimalSum_digits ha.1 ha.2 hm.1 hm.2 c.toNat_le _ (BitVec.toNat_ofNat _ 8)
  exact ⟨hvalid, hvalue, decide_eq_decide.mpr hcarry⟩

/-- Decimal SBC subtracts two-digit decimal numbers. -/
theorem decimalSbc_bcd {a m : Byte} (c : Bool) (ha : ValidBcd a) (hm : ValidBcd m) :
    ValidBcd (decimalSbc a m c).a ∧
      (bcdValue (decimalSbc a m c).a : Int) = ((bcdValue a : Int) - bcdValue m - (1 - c.toNat)) % 100 ∧
      (decimalSbc a m c).c = decide (0 ≤ (bcdValue a : Int) - bcdValue m - (1 - c.toNat)) := by
  have hbyte : ∀ r : Int, ((BitVec.ofInt 8 r).toNat : Int) = r % 256 := fun r => by
    rw [BitVec.toNat_ofInt]
    omega
  obtain ⟨hvalid, hvalue, hborrow⟩ := decimalDifference_digits ha.1 ha.2 hm.1 hm.2 c.toNat_le _ (hbyte _)
  refine ⟨hvalid, hvalue, decide_eq_decide.mpr (Iff.trans ?_ hborrow)⟩
  omega

/-- Settles O29: with `D` set the results are the decimal ones, which on valid BCD are two-digit arithmetic. -/
theorem decimalArithmeticOnValidBcd : Obligations.DecimalArithmeticOnValidBcd := by
  intro i m s hd
  refine fun ha hm => ⟨fun h => ⟨_, exec_adc h s, ?_⟩, fun h => ⟨_, exec_sbc h s, ?_⟩⟩
  · rw [hd, if_pos rfl]
    exact decimalAdc_bcd s.flags.c ha hm
  · rw [hd, if_pos rfl]
    exact decimalSbc_bcd s.flags.c ha hm

end Sys2Proof.Machine
end

section
/-! The statements on the addressing modes and the branches (40_engine_and_addressing.md R106 to R121,
44_branch_jump.md). -/

namespace Sys2Proof.Machine

/-! ### The fetch of an operand (R81, R101) -/

/-- A fetch without operand bytes reads the opcode only. -/
theorem fetch_noByte {s : State} {m : Mode} (hm : (fetch s).1.form.2.mode = m) (hl : m.layout = .f0) :
    (fetch s).1.form.2 = m.operand 0#8 0#8 ∧ (fetch s).2 = (fetchOpcode s).2 := by
  rw [fetch_mode] at hm
  subst hm
  have hop : opcodeLayout (fetchOpcode s).1 = .f0 := hl
  simp only [fetch, hop, decodeOpcode_operand, and_self]

/-! ### Direct and zero-page modes (R106 to R112, R116, R118) -/

/-- Settles O59: the operand of a direct mode is what the fetch read. -/
theorem directModes : Obligations.DirectModes := by
  refine ⟨fun s => ⟨fun hm => fetch_noByte hm rfl, fun hm => fetch_noByte hm rfl, fun hm => fetch_oneByte hm rfl,
    fun hm => ?_⟩, fun load v w s => ⟨rfl, rfl, rfl, rfl, rfl⟩⟩
  obtain ⟨b1, b2, hw, hform, hstate⟩ := fetch_word hm rfl
  exact ⟨hform.trans (congrArg Operand.abs hw), hstate⟩

/-- An indexed zero-page address wraps in the zero page (R110, R111, R116). -/
theorem zeroExt_add_eq_ofNat (z x : Byte) : zeroExt (z + x) = BitVec.ofNat 16 ((z.toNat + x.toNat) % 256) := by
  rw [zeroExt_eq_ofNat, BitVec.toNat_add]

/-- `{h, l}` as a number (R11). -/
theorem mkWord_eq_ofNat (h l : Byte) : mkWord h l = BitVec.ofNat 16 (h.toNat * 256 + l.toNat) := by
  rw [← toNat_mkWord, BitVec.ofNat_toNat, BitVec.setWidth_eq]

/-- A pointer read in the zero page, low byte first, at a number modulo 256 (R116 to R118). -/
theorem zeroPagePointer_eq (z : Byte) (k : Nat) (hz : z.toNat = k % 256) (s : State) :
    zeroPagePointer z s =
      let l := memRead (BitVec.ofNat 16 (k % 256)) s
      let h := memRead (BitVec.ofNat 16 ((k + 1) % 256)) l.2
      (BitVec.ofNat 16 (h.1.toNat * 256 + l.1.toNat), h.2) := by
  have hnext : (z.toNat + 1) % 256 = (k + 1) % 256 := by omega
  rw [zeroPagePointer, zeroExt_succ_eq_ofNat, zeroExt_eq_ofNat, hz, ← hnext, hz]
  simp only [mkWord_eq_ofNat]

/-- Settles O22: each mode's address, and its pointer's, is a number modulo 256. -/
theorem zeroPageModesWrap : Obligations.ZeroPageModesWrap := by
  refine ⟨fun s => ⟨fun hm => fetch_oneByte hm rfl, fun hm => fetch_oneByte hm rfl, fun hm => fetch_oneByte hm rfl,
    fun hm => fetch_oneByte hm rfl, fun hm => fetch_oneByte hm rfl⟩, fun load z s => ?_⟩
  intro operand pointed
  refine ⟨?_, ?_, ?_, ?_, ?_⟩
  · exact congrArg (operandAt load · 0 s) (zeroExt_eq_ofNat z)
  · exact congrArg (operandAt load · 0 s) (zeroExt_add_eq_ofNat z s.x)
  · exact congrArg (operandAt load · 0 s) (zeroExt_add_eq_ofNat z s.y)
  · rw [resolve, zeroPagePointer_eq (z + s.x) (z.toNat + s.x.toNat) (BitVec.toNat_add z s.x)]
    rfl
  · rw [resolve, zeroPagePointer_eq z z.toNat (Nat.mod_eq_of_lt z.isLt).symm]
    rfl

/-! ### The pointer of JMP (ptr) (R115) -/

/-- The address of the pointer's high byte: the next one, but in the same page. -/
theorem samePageSucc_eq (ptr : Word) :
    mkWord (hiByte ptr) (loByte ptr + 1#8) = if ptr.toNat % 256 = 255 then ptr - 255#16 else ptr + 1#16 := by
  have hlo : (loByte ptr).toNat = ptr.toNat % 256 := by
    rw [loByte, BitVec.extractLsb'_toNat, Nat.shiftRight_zero]
  apply BitVec.eq_of_toNat_eq
  rw [toNat_mkWord, toNat_hiByte, BitVec.toNat_add, hlo]
  split
  · rw [BitVec.toNat_sub]
    simp only [BitVec.toNat_ofNat]
    omega
  · rw [BitVec.toNat_add]
    simp only [BitVec.toNat_ofNat]
    omega

/-- Mode IND is opcode 6C's only (30_encoding.md R84). -/
theorem eq_6C_of_opcodeMode (op : Byte) : opcodeMode op = .ind → op = 0x6C#8 := by
  revert op
  refine forall_byte (forall_nibble ⟨?_, ?_, ?_, ?_, ?_, ?_, ?_, ?_, ?_, ?_, ?_, ?_, ?_, ?_, ?_, ?_⟩) <;>
    refine forall_nibble ⟨?_, ?_, ?_, ?_, ?_, ?_, ?_, ?_, ?_, ?_, ?_, ?_, ?_, ?_, ?_, ?_⟩ <;>
    decide

/-- Settles O20: the pointer is a fetched word, and its high byte comes from the same page. -/
theorem indirectJumpPageWrap : Obligations.IndirectJumpPageWrap := by
  refine ⟨fun s hm => ?_, fun ptr s => ⟨?_, fun hend => ?_⟩⟩
  · have hop : (fetchOpcode s).1 = 0x6C#8 := eq_6C_of_opcodeMode _ (by rw [← fetch_mode, hm])
    have hlayout : opcodeLayout 0x6C#8 = .f2 := rfl
    refine ⟨?_, hop⟩
    simp only [fetch, hop, hlayout]
    rfl
  · rw [← samePageSucc_eq]
    rfl
  · have hsucc := samePageSucc_eq ptr
    rw [if_neg hend] at hsucc
    simp only [resolve, samePagePointer, hsucc]
    rfl

end Sys2Proof.Machine
end

section
/-! The statements on branches, jumps and subroutines (44_branch_jump.md R200 to R214). -/

namespace Sys2Proof.Machine

/-! ### Targets and cycles (40_engine_and_addressing.md R120) -/

/-- A relative target is the sum with the signed displacement, modulo 65536. -/
theorem relativeTarget_eq (next : Word) (d : Byte) :
    relativeTarget next d = BitVec.ofInt 16 ((next.toNat : Int) + d.toInt) := by
  rw [BitVec.ofInt_add, BitVec.ofInt_natCast, BitVec.ofNat_toNat, BitVec.setWidth_eq]
  rfl

/-- A taken branch costs 1 cycle, or 2 when its target lies in another page. -/
theorem branchCost_eq (next : Word) (d : Byte) :
    branchCost next d = if (relativeTarget next d).toNat / 256 = next.toNat / 256 then 1 else 2 := by
  rw [branchCost, pageCross_eq]
  by_cases h : (relativeTarget next d).toNat / 256 = next.toNat / 256
  · rw [if_pos h, if_pos h.symm]
  · rw [if_neg h, if_neg (Ne.symm h)]

/-- The cost of a branch fits in the byte that the mode leaves it in. -/
theorem toNat_ofNat_branchCost (next : Word) (d : Byte) : (BitVec.ofNat 8 (branchCost next d)).toNat = branchCost next d := by
  rw [branchCost_eq]
  split <;> rfl

/-- What an operation without a write-back leaves, its extra cycles counted. -/
theorem runRead_noWriteBack {op : Oper} {m : Operand} {s : State} {o : Operated} (hwb : o.wb = false)
    (h : op (resolve true m s).address (resolve true m s).alu (afterMode true m s) = o) :
    runRead op m s = o.state.addCycles o.extra := by
  subst h
  exact if_neg (by rw [Bool.false_or]; exact ne_true_of_eq_false hwb)

/-- A branch asks for no write-back (R200). -/
theorem branch_wb (cond : Bool) (address : Word) (alu : Byte) (s : State) :
    (branch cond address alu s).wb = false := by
  cases cond <;> rfl

/-! ### Relative branches (R200 to R209) -/

/-- A branch on a condition of the flags: to its target at its cost, or to the next instruction. -/
theorem exec_relative {i : Instr} {op : Operation} {d : Byte} {o : Oper} (c : Flags → Bool)
    (h : i.form = (op, .rel d)) (s : State) (hrun : runForm op (.rel d) s = runRead o (.rel d) s)
    (hbranch : ∀ address alu t, o address alu t = branch (c t.flags) address alu t) :
    exec i s = .next (if c s.flags = true then
      { s with pc := relativeTarget (s.pc + 1#16) d, cycles := s.cycles + branchCost (s.pc + 1#16) d }
      else { s with pc := s.pc + 1#16 }) := by
  rw [exec_form h, hrun, runRead_noWriteBack (branch_wb ..) (hbranch ..), afterMode_flags, ← toNat_ofNat_branchCost]
  cases c s.flags <;> rfl

/-- Settles O35: nine conditions of one branch. -/
theorem relativeBranches : Obligations.RelativeBranches := by
  intro d s
  dsimp only
  rw [← relativeTarget_eq, ← branchCost_eq]
  exact ⟨exec_relative (fun f => !f.c) rfl s rfl fun _ _ _ => rfl, exec_relative (fun f => f.c) rfl s rfl fun _ _ _ => rfl,
    exec_relative (fun f => !f.z) rfl s rfl fun _ _ _ => rfl, exec_relative (fun f => f.z) rfl s rfl fun _ _ _ => rfl,
    exec_relative (fun f => !f.n) rfl s rfl fun _ _ _ => rfl, exec_relative (fun f => f.n) rfl s rfl fun _ _ _ => rfl,
    exec_relative (fun f => !f.v) rfl s rfl fun _ _ _ => rfl, exec_relative (fun f => f.v) rfl s rfl fun _ _ _ => rfl,
    exec_relative (fun _ => true) rfl s rfl fun _ _ _ => rfl⟩

/-! ### Bit branches (R210, R211) -/

/-- The addressing stage of a bit branch reads the zero-page byte (R121). -/
theorem afterMode_zpr (z d : Byte) (s : State) :
    afterMode true (.zpr z d) s = (memRead (zeroExt z) s).2.setPc (s.pc + 2#16) := by
  have hpc := memRead_pc s (zeroExt z)
  exact congrArg (memRead (zeroExt z) s).2.setPc (congrArg (· + 2#16) hpc)

/-- The displacement a fetch decodes ahead is the byte of the read that comes after that of the zero-page byte. -/
theorem peekDisplacement_zpr (z : Byte) (s : State) :
    peekDisplacement z s = (memRead (s.pc + 1#16) ((memRead (zeroExt z) s).2.setPc (s.pc + 2#16))).1 := by
  rw [← afterMode_zpr z 0#8]
  rfl

/-- A bit branch reads its displacement, then branches or goes on. -/
theorem exec_bitBranch {i : Instr} {op : Operation} {z d : Byte} {n : Nat} (want : Bool)
    (h : i.form = (op, .zpr z d)) (s : State)
    (hrun : runForm op (.zpr z d) s = runRead (fun _ alu t => bitBranch want n d alu t) (.zpr z d) s) :
    let r := memRead (zeroExt z) s
    let u := (memRead (s.pc + 1#16) (r.2.setPc (s.pc + 2#16))).2
    exec i s = .next (if bitAt r.1 n = want then
      (u.setPc (relativeTarget (s.pc + 2#16) d)).addCycles (branchCost (s.pc + 2#16) d) else u) := by
  intro r u
  have hpc : s.pc + 2#16 - 1#16 = s.pc + 1#16 := by bv_omega
  have hu : (memRead ((afterMode true (.zpr z d) s).pc - 1#16) (afterMode true (.zpr z d) s)).2 = u := by
    rw [afterMode_zpr, State.setPc_pc, hpc]
  rw [exec_form h, hrun, runRead_noWriteBack (branch_wb ..) (bitBranch_eq ..), hu, afterMode_zpr, State.setPc_pc]
  by_cases hbit : bitAt r.1 n = want
  · have hbit' : bitAt (resolve true (.zpr z d) s).alu n = want := hbit
    rw [decide_eq_true hbit', if_pos hbit]
    simp only [branch, if_true, toNat_ofNat_branchCost]
  · have hbit' : ¬ bitAt (resolve true (.zpr z d) s).alu n = want := hbit
    rw [decide_eq_false hbit', if_neg hbit]
    rfl

/-- Settles O36: the fetch decodes with the displacement that the operation reads, and the bit decides. -/
theorem rockwellBitBranches : Obligations.RockwellBitBranches := by
  refine ⟨fun s hm => ?_, fun i n z d s => ⟨fun h => ?_, fun h => ?_⟩⟩
  · have hmode : opcodeMode (fetchOpcode s).1 = .zpr := by rw [← fetch_mode, hm]
    have hop : opcodeLayout (fetchOpcode s).1 = .f3 := congrArg Mode.layout hmode
    simp only [fetch, hop, decodeOpcode_operand, hmode, peekDisplacement_zpr, ← zeroExt_eq_ofNat, and_true]
    rfl
  · dsimp only
    rw [exec_bitBranch false h s rfl, relativeTarget_eq, branchCost_eq, relativeTarget_eq, ← zeroExt_eq_ofNat]
    simp [bitAt]
  · dsimp only
    rw [exec_bitBranch true h s rfl, relativeTarget_eq, branchCost_eq, relativeTarget_eq, ← zeroExt_eq_ofNat]
    rfl

/-! ### Jumps and subroutines (R212 to R214) -/

/-- The sum of an address and an index, as a number modulo 65536 (R119). -/
theorem add_zeroExt_eq_ofNat (w : Word) (x : Byte) : w + zeroExt x = BitVec.ofNat 16 (w.toNat + x.toNat) := by
  apply BitVec.eq_of_toNat_eq
  rw [toNat_add_zeroExt, BitVec.toNat_ofNat]

/-- Settles O37: the targets of the three forms of JMP, and the words that JSR pushes and RTS pops. -/
theorem jumpsCallAndReturn : Obligations.JumpsCallAndReturn := by
  intro w s
  have hpc : s.pc + 2#16 - 1#16 = s.pc + 1#16 := by bv_omega
  refine ⟨rfl, ?_, ?_, ?_, exec_implied .rts s rfl rfl fun _ _ _ => rfl⟩
  · dsimp only
    rw [← samePageSucc_eq, ← mkWord_eq_ofNat]
    rfl
  · dsimp only
    rw [← add_zeroExt_eq_ofNat]
    rfl
  · rw [← hpc]
    rfl

end Sys2Proof.Machine
end

section
/-! The statement that no instruction reads `cycles` or `oldPC` (70_reset_and_hazards.md R287, 10_state.md R22). -/

namespace Sys2Proof.Machine

/-- The state with another `oldPC` and `k` more cycles. -/
def State.recount (v : Word) (k : Nat) (s : State) : State := (s.setOldPc v).addCycles k

/-- Two counts of cycles add in either order. -/
theorem addCycles_recount (v : Word) (k n : Nat) (s : State) :
    (s.recount v k).addCycles n = (s.addCycles n).recount v k := by
  simp [State.recount, State.addCycles, State.setOldPc, Nat.add_right_comm]

/-- With no intercept bound nothing is bound at any address. -/
theorem hookAt_of_no_intercepts {s : State} (h : s.intercepts = []) (a : Word) : s.hookAt a = none := by
  rw [State.hookAt, h]
  rfl

section
variable {s : State} (v : Word) (k : Nat) (h : s.intercepts = [])
include h

/-! ### Memory and the stack -/

theorem memRead_recount (a : Word) :
    memRead a (s.recount v k) = ((memRead a s).1, (memRead a s).2.recount v k) := by
  rw [memRead_unbound (hookAt_of_no_intercepts (s := s.recount v k) h a), memRead_unbound (hookAt_of_no_intercepts h a)]
  rfl

theorem memWrite_recount (a : Word) (b : Byte) :
    memWrite a b (s.recount v k) = (memWrite a b s).recount v k := by
  rw [memWrite_unbound b (hookAt_of_no_intercepts (s := s.recount v k) h a),
    memWrite_unbound b (hookAt_of_no_intercepts h a)]
  rfl

theorem memRead16_recount (a : Word) :
    memRead16 a (s.recount v k) = ((memRead16 a s).1, (memRead16 a s).2.recount v k) := by
  rw [memRead16, memRead_recount v k h, memRead_recount v k (by rwa [memRead_intercepts])]
  rfl

theorem push_recount (b : Byte) : push b (s.recount v k) = (push b s).recount v k := by
  have hslot : (s.recount v k).sp = s.sp := rfl
  rw [push, hslot, memWrite_recount v k h]
  rfl

theorem pop_recount : pop (s.recount v k) = ((pop s).1, (pop s).2.recount v k) :=
  memRead_recount (s := s.setSp (s.sp + 1#8)) v k h _

theorem push16_recount (w : Word) : push16 w (s.recount v k) = (push16 w s).recount v k := by
  rw [push16, push_recount v k h, push_recount v k (by rwa [push_intercepts])]
  rfl

theorem pop16_recount : pop16 (s.recount v k) = ((pop16 s).1, (pop16 s).2.recount v k) := by
  rw [pop16, pop_recount v k h, pop_recount v k (by rwa [pop_intercepts])]
  rfl

theorem interrupt_recount (vector : Word) (brk : Bool) :
    interrupt vector brk (s.recount v k) = (interrupt vector brk s).recount v k := by
  have hpush : (push16 s.pc s).intercepts = [] := by rwa [push16_intercepts]
  rw [interrupt_eq, interrupt_eq]
  have hpc : (s.recount v k).pc = s.pc := rfl
  have hflags : (s.recount v k).flags = s.flags := rfl
  rw [hpc, hflags, push16_recount v k h, push_recount v k hpush, memRead16_recount v k (by rwa [push_intercepts])]
  rfl

theorem returnFromInterrupt_recount : returnFromInterrupt (s.recount v k) = (returnFromInterrupt s).recount v k := by
  have hpop : ((pop s).2.setFlags (flagsOfByte (pop s).1)).intercepts = [] := by
    rwa [State.setFlags_intercepts, pop_intercepts]
  have hcomm : ((pop s).2.recount v k).setFlags (flagsOfByte (pop s).1)
      = ((pop s).2.setFlags (flagsOfByte (pop s).1)).recount v k := rfl
  rw [returnFromInterrupt, pop_recount v k h, hcomm, pop16_recount v k hpop]
  rfl

/-! ### The stages of an instruction -/

theorem operandAt_recount (load : Bool) (a : Word) (extra : Nat) :
    operandAt load a extra (s.recount v k)
      = { operandAt load a extra s with state := (operandAt load a extra s).state.recount v k } := by
  cases load
  · rfl
  · simp only [operandAt, if_true, memRead_recount v k h]

theorem zeroPagePointer_recount (z : Byte) :
    zeroPagePointer z (s.recount v k) = ((zeroPagePointer z s).1, (zeroPagePointer z s).2.recount v k) := by
  rw [zeroPagePointer, memRead_recount v k h, memRead_recount v k (by rwa [memRead_intercepts])]
  rfl

theorem samePagePointer_recount (ptr : Word) :
    samePagePointer ptr (s.recount v k) = ((samePagePointer ptr s).1, (samePagePointer ptr s).2.recount v k) := by
  rw [samePagePointer, memRead_recount v k h, memRead_recount v k (by rwa [memRead_intercepts])]
  rfl

theorem resolve_recount (load : Bool) (m : Operand) :
    resolve load m (s.recount v k)
      = { resolve load m s with state := (resolve load m s).state.recount v k } := by
  have hzero : ∀ z, (zeroPagePointer z s).2.intercepts = [] := fun z => by simp [zeroPagePointer, h]
  cases m
  case imp | acc | imm | rel => rfl
  case zp | zpx | zpy | abs | abx | aby | zpr => exact operandAt_recount v k h _ _ _
  case izx z =>
    have hx : (s.recount v k).x = s.x := rfl
    simp only [resolve, hx, zeroPagePointer_recount v k h]
    exact operandAt_recount v k (hzero _) _ _ _
  case izy z =>
    have hy : (s.recount v k).y = s.y := rfl
    simp only [resolve, hy, zeroPagePointer_recount v k h]
    exact operandAt_recount v k (hzero _) _ _ _
  case izp z =>
    simp only [resolve, zeroPagePointer_recount v k h]
    exact operandAt_recount v k (hzero _) _ _ _
  case ind ptr =>
    simp only [resolve, samePagePointer_recount v k h]
    exact operandAt_recount v k (by simp [samePagePointer, h]) _ _ _
  case iax ptr =>
    have hx : (s.recount v k).x = s.x := rfl
    simp only [resolve, hx, memRead16_recount v k h]
    exact operandAt_recount v k (by rwa [memRead16_intercepts]) _ _ _

theorem operOf_recount (m : Operand) (op : Operation) (address : Word) (alu : Byte) :
    operOf m op address alu (s.recount v k)
      = { operOf m op address alu s with state := (operOf m op address alu s).state.recount v k } := by
  cases op
  case bit =>
    simp only [operOf]
    split <;> rfl
  case bcc | bcs | beq | bne | bmi | bpl | bvc | bvs | bra =>
    simp only [operOf, opBcc, opBcs, opBeq, opBne, opBmi, opBpl, opBvc, opBvs, opBra, branch_eq]
    rfl
  case bbr | bbs =>
    have hpc : (s.recount v k).pc = s.pc := rfl
    simp only [operOf, opBbr, opBbs, bitBranch_eq, branch_eq, hpc, memRead_recount v k h]
    rfl
  case pha => exact congrArg Operated.done (push_recount v k h s.a)
  case php => exact congrArg Operated.done (push_recount v k h (flagsByte s.flags true))
  case phx => exact congrArg Operated.done (push_recount v k h s.x)
  case phy => exact congrArg Operated.done (push_recount v k h s.y)
  case pla | plp | plx | ply =>
    simp only [operOf, opPla, opPlp, opPlx, opPly, pop_recount v k h]
    rfl
  case jsr => exact congrArg (fun u : State => Operated.done (u.setPc address)) (push16_recount v k h (s.pc - 1#16))
  case rts =>
    simp only [operOf, opRts, pop16_recount v k h]
    rfl
  case brk =>
    exact congrArg Operated.done (interrupt_recount (s := s.setPc (s.pc + 1#16)) v k h irqVector true)
  case rti => exact congrArg Operated.done (returnFromInterrupt_recount v k h)
  all_goals rfl

theorem writeBack_recount (m : Mode) (address : Word) (alu : Byte) :
    writeBack m address alu (s.recount v k) = (writeBack m address alu s).recount v k := by
  cases m
  case acc | imm | imp | rel | zpr | ind => rfl
  all_goals exact memWrite_recount v k h address alu

theorem runStages_recount (load wb : Bool) (count : Nat) (m : Operand) (op : Operation) :
    runStages load wb count (operOf m op) m (s.recount v k)
      = (runStages load wb count (operOf m op) m s).recount v k := by
  have hadvance : (resolve load m (s.recount v k)).advance count = ((resolve load m s).advance count).recount v k := by
    rw [resolve_recount v k h, Resolved.advance, addCycles_recount]
    rfl
  have hmode : ((resolve load m s).advance count).intercepts = [] := by
    rwa [advance_intercepts, resolve_intercepts]
  obtain ⟨-, ⟨-, -, -, -, -, -, -, -, -, hints, -⟩, -⟩ := operOf_frame op m (resolve load m s).address
    (resolve load m s).alu ((resolve load m s).advance count)
  have haddress : (resolve load m (s.recount v k)).address = (resolve load m s).address := by rw [resolve_recount v k h]
  have halu : (resolve load m (s.recount v k)).alu = (resolve load m s).alu := by rw [resolve_recount v k h]
  unfold runStages
  dsimp only
  rw [hadvance, haddress, halu, operOf_recount v k hmode, addCycles_recount]
  revert hints
  generalize operOf m op (resolve load m s).address (resolve load m s).alu ((resolve load m s).advance count) = o
  intro hints
  split
  · exact writeBack_recount (s := o.state.addCycles o.extra) v k (hints.trans hmode) _ _ _
  · rfl

end

/-- Settles O17: every stage carries the two differences along. -/
theorem cyclesAndOldPcAreNeverRead : Obligations.CyclesAndOldPcAreNeverRead := by
  intro i s v k h
  refine ⟨_, exec_eq_runStages i s, (exec_eq_runStages i (s.recount v k)).trans ?_⟩
  rw [runStages_recount v k h]
  rfl

end Sys2Proof.Machine
end

section
/-! The settled statements about a step that fetches nothing, the interrupt check and the host's calls
(40_engine_and_addressing.md R100, 60_exceptions.md R254 and section 4, 70_reset_and_hazards.md section 1,
20_memory.md section 1). -/

namespace Sys2Proof.Machine

/-! ### Stopped and waiting steps, the interrupt check -/

/-- Settles O6: stages 1 and 2 of the step. -/
theorem stoppedAndWaitingSteps : Obligations.StoppedAndWaitingSteps :=
  ⟨fun _ hs => step_stopped hs, fun _ hs hw => step_waiting hs hw⟩

/-- Ending a wait does nothing to a core that does not wait. -/
theorem setWaiting_eq_self {s : State} (h : s.waiting = false) : s.setWaiting false = s := by
  rw [State.setWaiting, ← h]

/-- With a source pending and `I` set the check ends a wait and does nothing else. -/
theorem irqCheck_masked {s : State} (hp : s.pending ≠ []) (hi : s.flags.i = true) :
    irqCheck s = s.setWaiting false := by
  obtain hw | hw : s.waiting = true ∨ s.waiting = false := by cases s.waiting <;> simp
  · simp [irqCheck, hp, hi, hw, waiWakesWhenMasked]
  · simp [irqCheck, hp, hi, hw, setWaiting_eq_self hw]

/-- Settles O48: the branches of the check. -/
theorem interruptCheck : Obligations.InterruptCheck := by
  intro s
  refine ⟨fun hp => ?_, irqCheck_masked, fun hp hi => ?_, (irqCheck_host s).1⟩
  · rw [irqCheck, if_pos hp]
  · rw [irqCheck, if_neg hp, hi]
    rfl

/-! ### The host's calls -/

/-- Settles O50: the entry through the NMI vector, by what an entry leaves and sets. -/
theorem nonMaskableInterruptCall : Obligations.NonMaskableInterruptCall := by
  intro s
  refine ⟨rfl, ?_, ?_, ?_, ?_, rfl, ?_⟩ <;> simp [nonMaskableInterrupt]

/-- Removing a source that is not in a list leaves the list. -/
theorem removeSource_of_not_mem {p : List SourceId} {k : SourceId} (h : k ∉ p) : removeSource p k = p := by
  induction p with
  | nil => rfl
  | cons j rest ih =>
    obtain ⟨hj, hrest⟩ := not_or.mp (mt List.mem_cons.mpr h)
    rw [removeSource, if_neg (Ne.symm hj), ih hrest]

/-- Settles O52: the set difference on a canonical list. -/
theorem clearingASourceIsDifference : Obligations.ClearingASourceIsDifference := by
  intro k s hwf
  refine ⟨fun j => (mem_removeSource hwf k j).trans and_comm, fun hk => ?_, rfl⟩
  rw [clearMaskableInterrupt, removeSource_of_not_mem hk]
  rfl

/-- Settles O53: one word read at the reset vector from the state that holds the reset values. -/
theorem resetCpuCall : Obligations.ResetCpuCall := by
  intro s t r
  have hnext : resetVector + 1#16 = 0xFFFD#16 := by decide
  have hreset : resetCpu s = r.2.setPc r.1 := rfl
  refine ⟨rfl, ?_, fun h0 h1 => ?_, fun b hb => ?_⟩
  · rw [hreset, setPc_noMem, memRead16_noMem]
    rfl
  · have hread : r = _ := memRead16_unbound (s := t) (a := resetVector) h0 (by rw [hnext]; exact h1)
    rw [hreset, hread, hnext]
    rfl
  · rw [hreset]
    obtain hb | ⟨h0, h1⟩ := hb
    · exact memRead16_byteAt_unbound (s := t) resetVector hb
    · exact memRead16_byteAt_other (s := t) (a := resetVector) h0 (by rwa [hnext])

/-! ### Binding and clearing ranges (20_memory.md section 1) -/

/-- After binding a range, the table gives the handler in it and the old binding outside it. -/
theorem hookGet_hookPutRange (t : List (Nat × Hook)) (start : Nat) (h : Hook) (len a : Nat) :
    hookGet (hookPutRange t start h len) a = if start ≤ a ∧ a < start + len then some h else hookGet t a := by
  induction len with
  | zero =>
    rw [if_neg (by omega)]
    rfl
  | succ n ih =>
    by_cases ha : a = start + n
    · rw [if_pos (by omega), hookPutRange, ← ha, hookGet_hookPut_same]
    · rw [hookPutRange, hookGet_hookPut_other _ _ ha, ih]
      congr 1
      simp only [eq_iff_iff]
      omega

/-- After erasing a range from a canonical table, nothing is bound in it, and outside it the old binding. -/
theorem hookGet_hookEraseRange {t : List (Nat × Hook)} (ht : interceptsWf t = true) (start len a : Nat) :
    hookGet (hookEraseRange t start len) a = if start ≤ a ∧ a < start + len then none else hookGet t a := by
  induction len with
  | zero =>
    rw [if_neg (by omega)]
    rfl
  | succ n ih =>
    by_cases ha : a = start + n
    · rw [if_pos (by omega), hookEraseRange, ← ha]
      exact hookGet_hookErase_same (interceptsWf_hookEraseRange start n ht) a
    · rw [hookEraseRange, hookGet_hookErase_other _ ha, ih]
      congr 1
      simp only [eq_iff_iff]
      omega

/-- A range in bounds is bound, or it is empty and binds nothing. -/
theorem hookAt_bindRange {start len : Nat} (hlen : start + len ≤ 65536) (h : Hook) (s : State) (a : Word) :
    (bindRange start len h s).hookAt a
      = if start ≤ a.toNat ∧ a.toNat < start + len then some h else s.hookAt a := by
  unfold bindRange
  split
  · exact hookGet_hookPutRange s.intercepts start h len a.toNat
  · rw [if_neg]
    have := a.isLt
    omega

/-- Binding writes only the intercept table. -/
theorem setIntercepts_bindRange (start len : Nat) (h : Hook) (s : State) :
    (bindRange start len h s).setIntercepts s.intercepts = s := by
  unfold bindRange
  split <;> rfl

/-- Settles O56: `bindIntercept` is the range of one address. -/
theorem bindingARange : Obligations.BindingARange := by
  refine ⟨fun start len h s => ⟨fun hlen => hookAt_bindRange hlen h s, fun hlen => if_neg hlen,
    setIntercepts_bindRange start len h s⟩, fun addr h s => ⟨fun haddr a => ?_, fun haddr => ?_,
    setIntercepts_bindRange addr 1 h s⟩, fun start len s => ⟨fun ht a => ?_, rfl⟩⟩
  · rw [bindIntercept, hookAt_bindRange (by omega)]
    congr 1
    simp only [eq_iff_iff]
    omega
  · exact if_neg (by omega)
  · exact hookGet_hookEraseRange ht start len a.toNat

/-! ### The intercept path -/

/-- The address after an address, as a number modulo 65536. -/
theorem add_one_eq_ofNat (a : Word) : a + 1#16 = BitVec.ofNat 16 (a.toNat + 1) := by bv_omega

/-- A device's write hook is called once; the byte is stored unless the hook handled the write (R55). -/
theorem memWrite_oracle {s : State} {a : Word} {id : Nat} (v : Byte) (h : s.hookAt a = some (.oracle id)) :
    memWrite a v s = if Config.hookWriteHandled id s.hookCalls v a s.context = true
      then s.setHookCalls (s.hookCalls + 1) else (s.setHookCalls (s.hookCalls + 1)).putByte a v := by
  simp only [memWrite, h]

/-- Settles O58: the three kinds of binding, and the host's accesses as the core's. -/
theorem interceptPath : Obligations.InterceptPath := by
  intro s a v
  refine ⟨fun h => ⟨memRead_unbound h, memWrite_unbound v h⟩,
    fun id h => ⟨fun hm => ⟨memRead_oracle hm h, ?_⟩, memWrite_oracle v h⟩,
    fun h => ⟨memRead_rom h, memWrite_rom v h⟩, ⟨rfl, rfl⟩, ⟨rfl, rfl⟩, ?_⟩
  · rw [← memRead_value, memRead_oracle hm h]
  · intro l h
    rw [← mkWord_eq_ofNat]
    unfold h
    rw [← add_one_eq_ofNat]
    exact ⟨rfl, rfl⟩

end Sys2Proof.Machine
end

section
/-! The stack as a store of bytes, the frame an interrupt entry leaves, and the returns that undo an entry and
a call (40_engine_and_addressing.md R125 to R127, 60_exceptions.md R253, R260, 44_branch_jump.md R214). -/

namespace Sys2Proof.Machine

/-! ### Slots -/

/-- Stack slots at different pointers are different addresses. -/
theorem stackSlot_inj {p q : Byte} : stackSlot p = stackSlot q ↔ p = q :=
  ⟨fun h => by simpa [stackSlot] using congrArg loByte h, fun h => by rw [h]⟩

/-- A stack slot lies in page 1. -/
@[simp] theorem hiByte_stackSlot (p : Byte) : hiByte (stackSlot p) = 0x01#8 := hiByte_mkWord _ _

/-- An address in another page is no stack slot. -/
theorem ne_stackSlot {a : Word} (h : hiByte a ≠ 0x01#8) (p : Byte) : a ≠ stackSlot p := by
  rintro rfl
  exact h (hiByte_stackSlot p)

theorem sub_one_ne (p : Byte) : p - 1#8 ≠ p := by bv_omega

theorem sub_two_ne (p : Byte) : p - 2#8 ≠ p ∧ p - 2#8 ≠ p - 1#8 := by constructor <;> bv_omega

/-! ### Many pushes, then as many pops (R127) -/

theorem pushAll_sp (bs : List Byte) (s : State) : (pushAll bs s).sp = s.sp - BitVec.ofNat 8 bs.length := by
  induction bs generalizing s with
  | nil => simp [pushAll]
  | cons b rest ih =>
    rw [pushAll, ih, push_sp, List.length_cons]
    bv_omega

@[simp] theorem pushAll_hookAt (bs : List Byte) (s : State) (a : Word) : (pushAll bs s).hookAt a = s.hookAt a := by
  induction bs generalizing s with
  | nil => rfl
  | cons b rest ih => rw [pushAll, ih, push_hookAt]

/-- Pushes change only the slots below the stack pointer that they write. -/
theorem pushAll_byteAt_other (bs : List Byte) {s : State} {a : Word}
    (h : ∀ k < bs.length, a ≠ stackSlot (s.sp - BitVec.ofNat 8 k)) : (pushAll bs s).byteAt a = s.byteAt a := by
  induction bs generalizing s with
  | nil => rfl
  | cons b rest ih =>
    have hrest : ∀ k < rest.length, a ≠ stackSlot ((push b s).sp - BitVec.ofNat 8 k) := by
      intro k hk
      have hslot : (push b s).sp - BitVec.ofNat 8 k = s.sp - BitVec.ofNat 8 (k + 1) := by
        rw [push_sp]
        bv_omega
      rw [hslot]
      exact h (k + 1) (Nat.succ_lt_succ hk)
    have hfirst : a ≠ stackSlot s.sp := by simpa using h 0 (Nat.succ_pos _)
    rw [pushAll, ih hrest, push_byteAt_other s b hfirst]

/-- The last of the pops, taken apart. -/
theorem popAll_succ (n : Nat) (s : State) :
    popAll (n + 1) s = ((popAll n s).1 ++ [(pop (popAll n s).2).1], (pop (popAll n s).2).2) := by
  induction n generalizing s with
  | zero => rfl
  | succ n ih =>
    rw [popAll, ih]
    rfl

/-- Where no hook is bound in the stack page, pops change only the stack pointer. -/
theorem popAll_state {s : State} (h : ∀ k : Byte, s.hookAt (stackSlot k) = none) (n : Nat) :
    (popAll n s).2 = s.setSp (s.sp + BitVec.ofNat 8 n) := by
  induction n with
  | zero => simp [popAll, State.setSp]
  | succ n ih =>
    have hsp : s.sp + BitVec.ofNat 8 n + 1#8 = s.sp + BitVec.ofNat 8 (n + 1) := by bv_omega
    rw [popAll_succ, ih, pop_unbound (s := s.setSp (s.sp + BitVec.ofNat 8 n)) (h _), State.setSp_sp, hsp]
    rfl

/-- After as many pops as pushes the stack pointer is where it was. -/
theorem popAll_pushAll_state {s : State} (h : ∀ k : Byte, s.hookAt (stackSlot k) = none) (bs : List Byte) :
    (popAll bs.length (pushAll bs s)).2 = (pushAll bs s).setSp s.sp := by
  rw [popAll_state (fun k => by rw [pushAll_hookAt, h k]), pushAll_sp, BitVec.sub_add_cancel]

/-- Bytes pushed are popped last first: no later push of the 256 overwrites the slot of an earlier one. -/
theorem popAll_pushAll_bytes (bs : List Byte) {s : State} (hlen : bs.length ≤ 256) (hm : Memory.wf s.mem = true)
    (h : ∀ k : Byte, s.hookAt (stackSlot k) = none) : (popAll bs.length (pushAll bs s)).1 = bs.reverse := by
  induction bs generalizing s with
  | nil => rfl
  | cons b rest ih =>
    have hpush : ∀ k : Byte, (push b s).hookAt (stackSlot k) = none := fun k => by rw [push_hookAt, h k]
    have hlen : rest.length < 256 := hlen
    have hkept : (pushAll rest (push b s)).byteAt (stackSlot s.sp) = b := by
      rw [pushAll_byteAt_other, push_byteAt_same b hm (h _)]
      intro k hk hslot
      have hk' := stackSlot_inj.mp hslot
      rw [push_sp] at hk'
      bv_omega
    have hpop : (pop ((pushAll rest (push b s)).setSp (s.sp - 1#8))).1 = b := by
      rw [pop_unbound (by rw [State.setSp_hookAt, pushAll_hookAt, hpush])]
      simpa using hkept
    rw [List.length_cons, pushAll, popAll_succ, ih (by omega) (push_wf b hm) hpush, popAll_pushAll_state hpush,
      push_sp, hpop, List.reverse_cons]

/-- Settles O39: the bytes and the stack pointer of as many pops as pushes. -/
theorem stackIsLastInFirstOut : Obligations.StackIsLastInFirstOut :=
  ⟨fun bs s hlen hm h => ⟨popAll_pushAll_bytes bs hlen hm h, by rw [popAll_pushAll_state h]; rfl⟩,
    fun _ _ => ⟨rfl, rfl⟩⟩

/-! ### Words on the stack -/

section
variable {s : State} (w : Word)

/-- The high byte of a pushed word stands at the old stack pointer. -/
theorem push16_byteAt_high (hm : Memory.wf s.mem = true) (h0 : s.hookAt (stackSlot s.sp) = none) :
    (push16 w s).byteAt (stackSlot s.sp) = hiByte w := by
  rw [push16, push_byteAt_other, push_byteAt_same _ hm h0]
  rw [push_sp, ne_eq, stackSlot_inj]
  exact (sub_one_ne s.sp).symm

/-- The low byte of a pushed word stands one below. -/
theorem push16_byteAt_low (hm : Memory.wf s.mem = true) (h1 : s.hookAt (stackSlot (s.sp - 1#8)) = none) :
    (push16 w s).byteAt (stackSlot (s.sp - 1#8)) = loByte w := by
  have h := push_byteAt_same (s := push (hiByte w) s) (loByte w) (push_wf _ hm) (by rwa [push_sp, push_hookAt])
  rwa [push_sp] at h

/-- A word popped where no hook is bound: low byte first, and only the stack pointer changes. -/
theorem pop16_unbound (h1 : s.hookAt (stackSlot (s.sp + 1#8)) = none)
    (h2 : s.hookAt (stackSlot (s.sp + 2#8)) = none) :
    pop16 s = (mkWord (s.byteAt (stackSlot (s.sp + 2#8))) (s.byteAt (stackSlot (s.sp + 1#8))), s.setSp (s.sp + 2#8)) := by
  have hsp : s.sp + 1#8 + 1#8 = s.sp + 2#8 := by bv_omega
  rw [pop16, pop_unbound h1]
  dsimp only
  rw [pop_unbound (by rwa [State.setSp_sp, hsp, State.setSp_hookAt]), State.setSp_sp, hsp]
  rfl

end

/-! ### The frame of an interrupt entry (R253) -/

section
variable {s : State} (vector : Word) (brk : Bool)

/-- The vector read leaves the bytes the entry's pushes leave, where no hook is bound. -/
theorem interrupt_byteAt_pushed {b : Word} (h : s.hookAt b = none) :
    (interrupt vector brk s).byteAt b = (push (flagsByte s.flags brk) (push16 s.pc s)).byteAt b := by
  rw [interrupt_eq]
  exact memRead16_byteAt_unbound _ vector (by rwa [push_hookAt, push16_hookAt])

/-- The entry pushes the flags byte last, below the word of `PC`. -/
theorem interrupt_byteAt_flags (hm : Memory.wf s.mem = true) (h2 : s.hookAt (stackSlot (s.sp - 2#8)) = none) :
    (interrupt vector brk s).byteAt (stackSlot (s.sp - 2#8)) = flagsByte s.flags brk := by
  have hsp : (push16 s.pc s).sp = s.sp - 2#8 := (push16_sp s s.pc).trans (sp_sub_two s.sp)
  rw [interrupt_byteAt_pushed vector brk h2, ← hsp]
  exact push_byteAt_same _ (push16_wf _ hm) (by rwa [hsp, push16_hookAt])

/-- The flags byte is pushed in another slot than the word of `PC`. -/
theorem interrupt_byteAt_word {p : Byte} (h : s.hookAt (stackSlot p) = none) (hp : s.sp - 2#8 ≠ p) :
    (interrupt vector brk s).byteAt (stackSlot p) = (push16 s.pc s).byteAt (stackSlot p) := by
  have hsp : (push16 s.pc s).sp = s.sp - 2#8 := (push16_sp s s.pc).trans (sp_sub_two s.sp)
  rw [interrupt_byteAt_pushed vector brk h, push_byteAt_other]
  rw [hsp, ne_eq, stackSlot_inj]
  exact hp.symm

theorem interrupt_byteAt_pcHigh (hm : Memory.wf s.mem = true) (h0 : s.hookAt (stackSlot s.sp) = none) :
    (interrupt vector brk s).byteAt (stackSlot s.sp) = hiByte s.pc := by
  rw [interrupt_byteAt_word vector brk h0 (sub_two_ne s.sp).1, push16_byteAt_high _ hm h0]

theorem interrupt_byteAt_pcLow (hm : Memory.wf s.mem = true) (h1 : s.hookAt (stackSlot (s.sp - 1#8)) = none) :
    (interrupt vector brk s).byteAt (stackSlot (s.sp - 1#8)) = loByte s.pc := by
  rw [interrupt_byteAt_word vector brk h1 (sub_two_ne s.sp).2, push16_byteAt_low _ hm h1]

/-- A vector outside the stack page is read as memory holds it before the pushes. -/
theorem interrupt_pc (h0 : s.hookAt vector = none) (h1 : s.hookAt (vector + 1#16) = none)
    (hv0 : hiByte vector ≠ 0x01#8) (hv1 : hiByte (vector + 1#16) ≠ 0x01#8) :
    (interrupt vector brk s).pc = mkWord (s.byteAt (vector + 1#16)) (s.byteAt vector) := by
  have hkept : ∀ b, hiByte b ≠ 0x01#8 → (push (flagsByte s.flags brk) (push16 s.pc s)).byteAt b = s.byteAt b := by
    intro b hb
    rw [push_byteAt_other _ _ (ne_stackSlot hb _),
      push16_byteAt_other _ _ (ne_stackSlot hb _) (ne_stackSlot hb _)]
  rw [interrupt_eq, memRead16_unbound (by rwa [push_hookAt, push16_hookAt]) (by rwa [push_hookAt, push16_hookAt]),
    hkept _ hv0, hkept _ hv1]
  rfl

end

/-- Settles O44: the three slots of the frame, the other bytes, and the vector. -/
theorem interruptFrameOnTheStack : Obligations.InterruptFrameOnTheStack := by
  intro vector brk s hm h0 h1 h2
  exact ⟨interrupt_byteAt_pcHigh vector brk hm h0, interrupt_byteAt_pcLow vector brk hm h1,
    interrupt_byteAt_flags vector brk hm h2,
    fun b hb n0 n1 n2 => interrupt_byteAt_unbound s vector brk hb n0 n1 (by rwa [sp_sub_two]),
    interrupt_pc vector brk⟩

/-! ### The returns -/

/-- A return from interrupt where no hook is bound: the flags, then the word of `PC`, from the three slots. -/
theorem returnFromInterrupt_unbound {s : State} (h1 : s.hookAt (stackSlot (s.sp + 1#8)) = none)
    (h2 : s.hookAt (stackSlot (s.sp + 2#8)) = none) (h3 : s.hookAt (stackSlot (s.sp + 3#8)) = none) :
    returnFromInterrupt s = ((s.setSp (s.sp + 3#8)).setFlags (flagsOfByte (s.byteAt (stackSlot (s.sp + 1#8))))).setPc
      (mkWord (s.byteAt (stackSlot (s.sp + 3#8))) (s.byteAt (stackSlot (s.sp + 2#8)))) := by
  have e2 : s.sp + 1#8 + 1#8 = s.sp + 2#8 := by bv_omega
  have e3 : s.sp + 1#8 + 2#8 = s.sp + 3#8 := by bv_omega
  rw [returnFromInterrupt, pop_unbound h1]
  dsimp only
  rw [pop16_unbound (by simpa [e2] using h2) (by simpa [e3] using h3)]
  simp only [State.setFlags_sp, State.setSp_sp, State.setFlags_byteAt, State.setSp_byteAt, e2, e3]
  rfl

/-- RTI undoes an interrupt entry: `PC`, the stack pointer and the flags come from the frame (R260). -/
theorem returnFromInterrupt_interrupt {s : State} (vector : Word) (brk : Bool) (hm : Memory.wf s.mem = true)
    (h0 : s.hookAt (stackSlot s.sp) = none) (h1 : s.hookAt (stackSlot (s.sp - 1#8)) = none)
    (h2 : s.hookAt (stackSlot (s.sp - 2#8)) = none) :
    returnFromInterrupt (interrupt vector brk s)
      = (((interrupt vector brk s).setSp s.sp).setFlags s.flags).setPc s.pc := by
  have e1 : (interrupt vector brk s).sp + 1#8 = s.sp - 2#8 := by rw [interrupt_sp]; bv_omega
  have e2 : (interrupt vector brk s).sp + 2#8 = s.sp - 1#8 := by rw [interrupt_sp]; bv_omega
  have e3 : (interrupt vector brk s).sp + 3#8 = s.sp := by rw [interrupt_sp]; bv_omega
  rw [returnFromInterrupt_unbound (by rwa [e1, interrupt_hookAt]) (by rwa [e2, interrupt_hookAt])
    (by rwa [e3, interrupt_hookAt]), e1, e2, e3, interrupt_byteAt_flags vector brk hm h2,
    interrupt_byteAt_pcLow vector brk hm h1, interrupt_byteAt_pcHigh vector brk hm h0, flagsOfByte_flagsByte,
    Laws.mkWord_hi_lo]

/-- A word pushed is popped again, whatever `PC` was set to in between. -/
theorem pop16_push16 {s : State} (w target : Word) (hm : Memory.wf s.mem = true)
    (h0 : s.hookAt (stackSlot s.sp) = none) (h1 : s.hookAt (stackSlot (s.sp - 1#8)) = none) :
    pop16 ((push16 w s).setPc target) = (w, ((push16 w s).setPc target).setSp s.sp) := by
  have e1 : ((push16 w s).setPc target).sp + 1#8 = s.sp - 1#8 := by rw [State.setPc_sp, push16_sp]; bv_omega
  have e2 : ((push16 w s).setPc target).sp + 2#8 = s.sp := by rw [State.setPc_sp, push16_sp]; bv_omega
  rw [pop16_unbound (by rwa [e1, State.setPc_hookAt, push16_hookAt]) (by rwa [e2, State.setPc_hookAt, push16_hookAt]),
    e1, e2, State.setPc_byteAt, State.setPc_byteAt, push16_byteAt_low w hm h1, push16_byteAt_high w hm h0,
    Laws.mkWord_hi_lo]

/-- Settles O47: the frame an entry leaves is what RTI pops, and the word JSR pushes is what RTS pops. -/
theorem returnsUndoCallAndInterrupt : Obligations.ReturnsUndoCallAndInterrupt := by
  intro s hm h0 h1
  refine ⟨fun vector brk h2 => ⟨_, exec_rti _, ?_⟩, fun w => ?_⟩
  · rw [returnFromInterrupt_interrupt vector brk hm h0 h1 h2]
    simp
  · obtain ⟨-, -, -, hjsr, -⟩ := jumpsCallAndReturn w s
    obtain ⟨-, -, -, -, hrts⟩ := jumpsCallAndReturn w
      ((push16 (s.pc + 1#16) (s.setPc (s.pc + 2#16))).setPc (w + 1#16))
    have hpop := pop16_push16 (s := s.setPc (s.pc + 2#16)) (s.pc + 1#16) (w + 1#16) hm h0 h1
    have hpc : s.pc + 1#16 + 1#16 = s.pc + 2#16 := by bv_omega
    refine ⟨_, ((pop16 _).2).setPc ((pop16 _).1 + 1#16), hjsr, hrts, ?_⟩
    simp [hpop, hpc]

end Sys2Proof.Machine
end

section
/-! The statement that a running step executes the instruction at `PC` (40_engine_and_addressing.md R100). -/

namespace Sys2Proof.Machine

/-- The state a running step gives its instruction: `oldPC` set, `PC` past the opcode, the base cycles counted. -/
def State.afterOpcode (s : State) : State :=
  ((s.setOldPc s.pc).setPc (s.pc + 1#16)).addCycles (baseCycles (s.byteAt s.pc))

@[simp] theorem State.afterOpcode_pc (s : State) : s.afterOpcode.pc = s.pc + 1#16 := rfl

/-- The opcode fetch where no device is bound at `PC`. -/
theorem fetchOpcode_noDevice {s : State} (h : NoDevice (s.hookAt s.pc)) :
    fetchOpcode s = (s.byteAt s.pc, s.afterOpcode) := by
  have hread : memRead s.pc (s.setOldPc s.pc) = (s.byteAt s.pc, s.setOldPc s.pc) :=
    memRead_noDevice (s := s.setOldPc s.pc) h
  simp only [fetchOpcode, hread]
  rfl

/-- The displacement of a bit branch is decoded as Memory holds it, whatever the zero-page byte's read mirrors. -/
theorem peekDisplacement_noDevice {s : State} (z : Byte) (h : NoDevice (s.hookAt (s.pc + 1#16))) :
    peekDisplacement z s = s.byteAt (s.pc + 1#16) := by
  rw [peekDisplacement_zpr, memRead_noDevice (by rwa [State.setPc_hookAt, memRead_hookAt])]
  exact memRead_byteAt (zeroExt z) (.inl h)

/-- The fetch where no device is bound at the instruction's bytes decodes them as Memory holds them. -/
theorem fetch_noDevice {s : State}
    (h : ∀ k < 1 + opcodeOperandBytes (s.byteAt s.pc), NoDevice (s.hookAt (s.pc + BitVec.ofNat 16 k))) :
    fetch s = (decodeOpcode (s.byteAt s.pc) (s.byteAt (s.pc + 1#16)) (s.byteAt (s.pc + 2#16)), s.afterOpcode) := by
  have h0 : NoDevice (s.hookAt s.pc) := by simpa using h 0 (by omega)
  have hnext : s.pc + 1#16 + 1#16 = s.pc + 2#16 := by bv_omega
  obtain ⟨unused0, unused1⟩ := decodeOpcode_unused (s.byteAt s.pc) (s.byteAt (s.pc + 1#16)) (s.byteAt (s.pc + 2#16))
  rw [opcodeOperandBytes_eq] at h
  have h1 (hcount : 1 ≤ (opcodeLayout (s.byteAt s.pc)).byteCount) :
      memRead (s.pc + 1#16) s.afterOpcode = (s.byteAt (s.pc + 1#16), s.afterOpcode) :=
    memRead_noDevice (s := s.afterOpcode) (h 1 (by omega))
  have h2 (hcount : 2 ≤ (opcodeLayout (s.byteAt s.pc)).byteCount) :
      NoDevice (s.hookAt (s.pc + 2#16)) := h 2 (by omega)
  simp only [fetch, fetchOpcode_noDevice h0, State.afterOpcode_pc]
  cases hl : opcodeLayout (s.byteAt s.pc) with
  | f0 => simp only [unused0 hl]
  | f1 => simp only [h1 (by rw [hl]; decide), unused1 hl]
  | f2 =>
    simp only [h1 (by rw [hl]; decide)]
    rw [hnext, memRead_noDevice (s := s.afterOpcode) (h2 (by rw [hl]; decide))]
    rfl
  | f3 =>
    simp only [h1 (by rw [hl]; decide)]
    have hdisplacement : NoDevice (s.afterOpcode.hookAt (s.afterOpcode.pc + 1#16)) := by
      rw [State.afterOpcode_pc, hnext]
      exact h2 (by rw [hl]; decide)
    rw [peekDisplacement_noDevice _ hdisplacement, State.afterOpcode_pc, hnext]
    rfl

/-- Settles O5: the fetch decodes the bytes at `PC`, and every instruction has a meaning. -/
theorem stepRunsDecodedInstruction : Obligations.StepRunsDecodedInstruction := by
  intro s i rest hstopped hwaiting hdecode hhooks
  have henough : opcodeOperandBytes (s.byteAt s.pc) ≤ [s.byteAt (s.pc + 1#16), s.byteAt (s.pc + 2#16)].length :=
    opcodeOperandBytes_le_two _
  rw [decode_cons_of_le henough] at hdecode
  obtain ⟨hi, -⟩ := Prod.mk.inj (Except.ok.inj hdecode)
  have hop : i.opcode = s.byteAt s.pc := by rw [← hi, decodeOpcode_opcode]
  have hlen : (encode i).length = 1 + opcodeOperandBytes (s.byteAt s.pc) := by
    rw [encode, List.length_cons, i.operandBytes_length, hop, Nat.add_comm]
  have hfetch : fetch s = (i, s.afterOpcode) := by
    rw [fetch_noDevice fun k hk => noDevice_iff.mpr (hhooks k (by rwa [hlen])), ← hi]
    rfl
  obtain ⟨-, -, hwf⟩ := Laws.OpcodeRow.all i
  have hexec := exec_eq_runStages i s.afterOpcode
  rw [hop]
  exact ⟨hwf, _, hexec, step_running hstopped hwaiting (by rw [hfetch]; exact hexec)⟩

end Sys2Proof.Machine
end
